-- ==== Sys2Proof/Word.lean ====
section
/-! DEFINITION. The words the block's ports and registers carry (30_encoding.md R60 to R65). -/

namespace Sys2Proof

/-- One byte of the serial line, an axis id, or a key code. -/
abbrev Byte := BitVec 8

/-- An input event word: KIND in bits 10:8, DATA in bits 7:0 (R63). -/
abbrev EventWord := BitVec 11

/-- A completed frame: VHI, VLO, AXIS and SYNC from the high byte down (R61). -/
abbrev FrameWord := BitVec 32

/-- The 16 value bits of a frame, `W[31:16]`, read as two's complement (R61, R120). -/
abbrev RawValue := BitVec 16

/-- An output command word: CKIND in bits 33:32, ARG in bits 31:0 (R65). -/
abbrev CommandWord := BitVec 34

end Sys2Proof
end

