-- ==== Sys2Proof/Config.lean ====
section
/-! DEFINITION. The block's fixed constants (R6, named as 93_implementation_defined.md row 16 asks) and its
two open parameters (R7). -/

namespace Sys2Proof

/-- The two axes that carry keys (R6). -/
inductive DiscreteAxis where
  | axis2
  | axis3
  deriving DecidableEq, Repr

/-- The class of a discrete sample (R150). NEUTRAL doubles as "no key asserted" in the key map (R151). -/
inductive Symbol where
  | neutral
  | positive
  | negative
  deriving DecidableEq, Repr

/-- The values of `P_TEARDOWN_ORDER` (R7). -/
inductive TeardownOrder where
  | axis2First
  | axis3First
  deriving DecidableEq, Repr, Inhabited

namespace Config

/-- `SYNC` (R6). UNVERIFIED literal (D21, log entry 8). -/
def sync : Byte := 0xFF#8

/-- `PAYLOAD_LEN`: the payload bytes that follow a sync byte (R6). -/
def payloadLen : Nat := 3

/-- Axis id of MOVEX (R68). -/
def axisMoveX : Byte := 0x00#8

/-- Axis id of MOVEY (R68). -/
def axisMoveY : Byte := 0x01#8

/-- Axis id of KEYH (R68). -/
def axisKeyH : Byte := 0x02#8

/-- Axis id of KEYV (R68). -/
def axisKeyV : Byte := 0x03#8

/-- The key codes 'd', 'a', 'w' and 's' (R66). UNVERIFIED: ASCII, which the spec itself marks as general
knowledge (D4, log entry 8). -/
def keyD : Byte := 0x64#8
/-- Key 'a' (R66). -/
def keyA : Byte := 0x61#8
/-- Key 'w' (R66). -/
def keyW : Byte := 0x77#8
/-- Key 's' (R66). -/
def keyS : Byte := 0x73#8

/-- KEYMAP (R151). -/
def keyMap : DiscreteAxis → Symbol → Option Byte
  | _, .neutral => none
  | .axis2, .positive => some keyD
  | .axis2, .negative => some keyA
  | .axis3, .positive => some keyW
  | .axis3, .negative => some keyS

/-- `P_TEARDOWN_ORDER` (R7, D9): an open parameter of the block, so a constant nothing constrains
(log entry 6). -/
opaque teardownOrder : TeardownOrder

/-- `P_IO_TIMEOUT` (R7, D7): the transport's timeout. No definition of the model reads it, as R210 says of the
block (log entry 7). -/
opaque ioTimeout : Nat

end Config

end Sys2Proof
end

