-- ==== Sys2Proof/Syntax.lean ====
section
/-! DEFINITION. The operations of the block, one constructor per operation and refusal reason of
spec/opcode_table.json, and the two registers that select among them (R67, R68). -/

namespace Sys2Proof

/-- SESS (R21): code 0 is CLOSED, code 1 is ACTIVE. -/
inductive Sess where
  | closed
  | active
  deriving DecidableEq, Repr

/-- PHASE (R22): codes 0 SCAN, 1 PAY0, 2 PAY1, 3 PAY2. -/
inductive Phase where
  | scan
  | pay0
  | pay1
  | pay2
  deriving DecidableEq, Repr

/-- The operations. Event operations keep the DATA field of the word that selects them, also where the block
ignores it (R64), so that encoding loses no bit. SKIP's eight table rows and DROP's six differ only in which
values of one field they cover, so each is one constructor (R73). -/
inductive Instr where
  /-- SYNC (R101). -/
  | sync
  /-- SKIP (R102). -/
  | skip (b : Byte)
  /-- CAP0 (R103). -/
  | cap0 (b : Byte)
  /-- CAP1 (R104). -/
  | cap1 (b : Byte)
  /-- CAP2 (R105). -/
  | cap2 (b : Byte)
  /-- IDLE (R106). -/
  | idle (data : Byte)
  /-- TRUNC (R107). -/
  | trunc (data : Byte)
  /-- CLOSE (R171). -/
  | closeSession (data : Byte)
  /-- ERROR (R172). -/
  | errorSession (data : Byte)
  /-- OPEN (R170). -/
  | openSession (data : Byte)
  /-- REFUSED: OPEN while a session is active (R175). -/
  | refusedOpen (data : Byte)
  /-- REFUSED: BYTE with no session open (R174). -/
  | refusedByte (data : Byte)
  /-- REFUSED: TIMEOUT with no session open (R174). -/
  | refusedTimeout (data : Byte)
  /-- REFUSED: CLOSE with no session open (R174). -/
  | refusedClose (data : Byte)
  /-- REFUSED: ERROR with no session open (R174). -/
  | refusedError (data : Byte)
  /-- REFUSED: reserved KIND 5 (R176). -/
  | refusedKind5 (data : Byte)
  /-- REFUSED: reserved KIND 6 (`low` = 0) or 7 (`low` = 1) (R176). -/
  | refusedKind67 (low : BitVec 1) (data : Byte)
  /-- MOVEX (R131). -/
  | movex (raw : RawValue)
  /-- MOVEY (R132). -/
  | movey (raw : RawValue)
  /-- KEYH (R133). -/
  | keyh (raw : RawValue)
  /-- KEYV (R134). -/
  | keyv (raw : RawValue)
  /-- DROP (R135). -/
  | drop (axis : Byte) (raw : RawValue)
  deriving DecidableEq, Repr

end Sys2Proof
end

