-- ==== Sys2Proof/WellFormed.lean ====
section
/-! DEFINITION. Which operation terms have an encoding, and the SESS and PHASE in which the operation map admits
each (R67, R68; the "state" column of spec/opcode_table.json). -/

namespace Sys2Proof

/-- The axis ids that DISPATCH does not drop (R68). -/
def validAxis (axis : Byte) : Bool :=
  axis == Config.axisMoveX || axis == Config.axisMoveY || axis == Config.axisKeyH || axis == Config.axisKeyV

/-- A SKIP is never the sync byte (R102) and a DROP never a valid axis (R135). Every other field is free. -/
def Instr.wellFormed : Instr → Bool
  | .sync => true
  | .skip b => b != Config.sync
  | .cap0 _ => true
  | .cap1 _ => true
  | .cap2 _ => true
  | .idle _ => true
  | .trunc _ => true
  | .closeSession _ => true
  | .errorSession _ => true
  | .openSession _ => true
  | .refusedOpen _ => true
  | .refusedByte _ => true
  | .refusedTimeout _ => true
  | .refusedClose _ => true
  | .refusedError _ => true
  | .refusedKind5 _ => true
  | .refusedKind67 _ _ => true
  | .movex _ => true
  | .movey _ => true
  | .keyh _ => true
  | .keyv _ => true
  | .drop axis _ => !validAxis axis

/-- The SESS and PHASE in which an operation can be selected. Frame operations are selected by the frame word
alone, inside the CAP2 step (R68, R105). -/
def Instr.admittedIn : Instr → Sess → Phase → Bool
  | .sync, sess, phase => sess == .active && phase == .scan
  | .skip _, sess, phase => sess == .active && phase == .scan
  | .cap0 _, sess, phase => sess == .active && phase == .pay0
  | .cap1 _, sess, phase => sess == .active && phase == .pay1
  | .cap2 _, sess, phase => sess == .active && phase == .pay2
  | .idle _, sess, phase => sess == .active && phase == .scan
  | .trunc _, sess, phase => sess == .active && phase != .scan
  | .closeSession _, sess, _ => sess == .active
  | .errorSession _, sess, _ => sess == .active
  | .openSession _, sess, _ => sess == .closed
  | .refusedOpen _, sess, _ => sess == .active
  | .refusedByte _, sess, _ => sess == .closed
  | .refusedTimeout _, sess, _ => sess == .closed
  | .refusedClose _, sess, _ => sess == .closed
  | .refusedError _, sess, _ => sess == .closed
  | .refusedKind5 _, _, _ => true
  | .refusedKind67 _ _, _, _ => true
  | .movex _, sess, phase => sess == .active && phase == .pay2
  | .movey _, sess, phase => sess == .active && phase == .pay2
  | .keyh _, sess, phase => sess == .active && phase == .pay2
  | .keyv _, sess, phase => sess == .active && phase == .pay2
  | .drop _ _, sess, phase => sess == .active && phase == .pay2

end Sys2Proof
end

