-- ==== Sys2Proof/Decode.lean ====
section
/-! DEFINITION. The decoder and the encoder of the block's two instruction formats, the event word and the frame
word, and the operation tables they follow (30_encoding.md R60 to R73). -/

namespace Sys2Proof

/-! ### Fields -/

/-- KIND, `ev[10:8]` (R63). -/
def kindOf (ev : EventWord) : BitVec 3 := ev.extractLsb' 8 3

/-- DATA, `ev[7:0]` (R63). -/
def dataOf (ev : EventWord) : Byte := ev.extractLsb' 0 8

/-- The event word with these two fields (R63). -/
def eventWord (kind : BitVec 3) (data : Byte) : EventWord := kind ++ data

/-- SYNC, `W[7:0]` (R61). -/
def frameSync (w : FrameWord) : Byte := w.extractLsb' 0 8

/-- AXIS, `W[15:8]` (R61). -/
def frameAxis (w : FrameWord) : Byte := w.extractLsb' 8 8

/-- The raw value, `W[31:16]` (R61). -/
def frameRaw (w : FrameWord) : RawValue := w.extractLsb' 16 16

/-- `W = c3 ++ c2 ++ c1 ++ c0`, with `c0` the sync byte (R61). -/
def packFrame (vhi vlo axis : Byte) : FrameWord := vhi ++ vlo ++ axis ++ Config.sync

/-- The frame word with this axis id and raw value (R61). -/
def frameWord (axis : Byte) (raw : RawValue) : FrameWord := raw ++ axis ++ Config.sync

/-- The event kinds (R63). -/
inductive EventKind where
  | byte
  | timeout
  | close
  | error
  | sessionOpen
  | reserved5
  | reserved67 (low : BitVec 1)
  deriving DecidableEq, Repr

/-- The kind a KIND field spells (R63). -/
def kindOfField (k : BitVec 3) : EventKind :=
  if k = 0#3 then .byte
  else if k = 1#3 then .timeout
  else if k = 2#3 then .close
  else if k = 3#3 then .error
  else if k = 4#3 then .sessionOpen
  else if k = 5#3 then .reserved5
  else .reserved67 (k.extractLsb' 0 1)

/-! ### Decoding -/

/-- The operation an event selects (R67). -/
def decodeEvent (sess : Sess) (phase : Phase) (ev : EventWord) : Instr :=
  match kindOfField (kindOf ev), sess, phase with
  | .byte, .active, .scan => if dataOf ev = Config.sync then .sync else .skip (dataOf ev)
  | .byte, .active, .pay0 => .cap0 (dataOf ev)
  | .byte, .active, .pay1 => .cap1 (dataOf ev)
  | .byte, .active, .pay2 => .cap2 (dataOf ev)
  | .byte, .closed, _ => .refusedByte (dataOf ev)
  | .timeout, .active, .scan => .idle (dataOf ev)
  | .timeout, .active, _ => .trunc (dataOf ev)
  | .timeout, .closed, _ => .refusedTimeout (dataOf ev)
  | .close, .active, _ => .closeSession (dataOf ev)
  | .close, .closed, _ => .refusedClose (dataOf ev)
  | .error, .active, _ => .errorSession (dataOf ev)
  | .error, .closed, _ => .refusedError (dataOf ev)
  | .sessionOpen, .active, _ => .refusedOpen (dataOf ev)
  | .sessionOpen, .closed, _ => .openSession (dataOf ev)
  | .reserved5, _, _ => .refusedKind5 (dataOf ev)
  | .reserved67 low, _, _ => .refusedKind67 low (dataOf ev)

/-- The operation an axis id selects (R68). -/
def decodeAxis (axis : Byte) (raw : RawValue) : Instr :=
  if axis = Config.axisMoveX then .movex raw
  else if axis = Config.axisMoveY then .movey raw
  else if axis = Config.axisKeyH then .keyh raw
  else if axis = Config.axisKeyV then .keyv raw
  else .drop axis raw

/-- Why bytes are no instruction. -/
inductive DecodeError where
  /-- Two bytes whose upper five bits are not zero: no 11-bit event word (R63). -/
  | notAnEventWord
  /-- Four bytes that do not start with the sync byte: no frame (R60). -/
  | noSyncByte
  /-- Neither two bytes (an event word) nor four (a frame). -/
  | wrongLength
  deriving DecidableEq, Repr

/-- The frame operation a frame word selects (R68). -/
def decodeFrame (w : FrameWord) : Except DecodeError Instr :=
  if frameSync w = Config.sync then .ok (decodeAxis (frameAxis w) (frameRaw w)) else .error .noSyncByte

/-- The decoder. A frame is its four consumed bytes in wire order (R10, R60). An event word is two bytes, the low
one first, the five bits above it zero (DESIGN CHOICE, log entry 9). SESS and PHASE take part in selecting an
event operation (R67) and no part in selecting a frame operation (R68). -/
def decodeBytes (sess : Sess) (phase : Phase) : List Byte → Except DecodeError Instr
  | [b0, b1] =>
    if b1.extractLsb' 3 5 = 0#5 then .ok (decodeEvent sess phase (b1.extractLsb' 0 3 ++ b0))
    else .error .notAnEventWord
  | [c0, c1, c2, c3] => decodeFrame (c3 ++ c2 ++ c1 ++ c0)
  | _ => .error .wrongLength

/-! ### Encoding -/

/-- A word of either format. -/
inductive PortWord where
  | event (ev : EventWord)
  | frame (w : FrameWord)
  deriving DecidableEq, Repr

/-- The bytes of a word, in the order `decodeBytes` reads them. -/
def portBytes : PortWord → List Byte
  | .event ev => [ev.extractLsb' 0 8, (ev.extractLsb' 8 3).zeroExtend 8]
  | .frame w => [w.extractLsb' 0 8, w.extractLsb' 8 8, w.extractLsb' 16 8, w.extractLsb' 24 8]

/-- The word of an operation (R63, R67, R68). -/
def encodeWord : Instr → PortWord
  | .sync => .event (eventWord 0#3 Config.sync)
  | .skip b => .event (eventWord 0#3 b)
  | .cap0 b => .event (eventWord 0#3 b)
  | .cap1 b => .event (eventWord 0#3 b)
  | .cap2 b => .event (eventWord 0#3 b)
  | .idle data => .event (eventWord 1#3 data)
  | .trunc data => .event (eventWord 1#3 data)
  | .closeSession data => .event (eventWord 2#3 data)
  | .errorSession data => .event (eventWord 3#3 data)
  | .openSession data => .event (eventWord 4#3 data)
  | .refusedOpen data => .event (eventWord 4#3 data)
  | .refusedByte data => .event (eventWord 0#3 data)
  | .refusedTimeout data => .event (eventWord 1#3 data)
  | .refusedClose data => .event (eventWord 2#3 data)
  | .refusedError data => .event (eventWord 3#3 data)
  | .refusedKind5 data => .event (eventWord 5#3 data)
  | .refusedKind67 low data => .event (eventWord (3#2 ++ low) data)
  | .movex raw => .frame (frameWord Config.axisMoveX raw)
  | .movey raw => .frame (frameWord Config.axisMoveY raw)
  | .keyh raw => .frame (frameWord Config.axisKeyH raw)
  | .keyv raw => .frame (frameWord Config.axisKeyV raw)
  | .drop axis raw => .frame (frameWord axis raw)

/-- The encoder. -/
def encode (i : Instr) : List Byte := portBytes (encodeWord i)

/-! ### The operation tables (R73) -/

/-- An event row of spec/opcode_table.json: a word matches when `ev &&& mask = pattern`. -/
structure EventRow where
  mnemonic : String
  pattern : EventWord
  mask : EventWord
  sessions : List Sess
  phases : List Phase
  deriving DecidableEq, Repr

/-- A frame row of spec/opcode_table.json. -/
structure FrameRow where
  mnemonic : String
  pattern : FrameWord
  mask : FrameWord
  deriving DecidableEq, Repr

/-- Does the row's pattern match the word? (R73) -/
def EventRow.matchesWord (r : EventRow) (ev : EventWord) : Bool := ev &&& r.mask == r.pattern

/-- Does the row select this event in this state? (R67, R73) -/
def EventRow.selects (r : EventRow) (sess : Sess) (phase : Phase) (ev : EventWord) : Bool :=
  r.matchesWord ev && r.sessions.contains sess && r.phases.contains phase

/-- Does the row select this frame? (R68, R73) -/
def FrameRow.selects (r : FrameRow) (w : FrameWord) : Bool := w &&& r.mask == r.pattern

/-- The event rows of spec/opcode_table.json, in its order. -/
def eventTable : List EventRow :=
  [
    ⟨"SYNC", 0x0FF#11, 0x7FF#11, [.active], [.scan]⟩,
    ⟨"SKIP", 0x000#11, 0x780#11, [.active], [.scan]⟩,
    ⟨"SKIP", 0x080#11, 0x7C0#11, [.active], [.scan]⟩,
    ⟨"SKIP", 0x0C0#11, 0x7E0#11, [.active], [.scan]⟩,
    ⟨"SKIP", 0x0E0#11, 0x7F0#11, [.active], [.scan]⟩,
    ⟨"SKIP", 0x0F0#11, 0x7F8#11, [.active], [.scan]⟩,
    ⟨"SKIP", 0x0F8#11, 0x7FC#11, [.active], [.scan]⟩,
    ⟨"SKIP", 0x0FC#11, 0x7FE#11, [.active], [.scan]⟩,
    ⟨"SKIP", 0x0FE#11, 0x7FF#11, [.active], [.scan]⟩,
    ⟨"CAP0", 0x000#11, 0x700#11, [.active], [.pay0]⟩,
    ⟨"CAP1", 0x000#11, 0x700#11, [.active], [.pay1]⟩,
    ⟨"CAP2", 0x000#11, 0x700#11, [.active], [.pay2]⟩,
    ⟨"IDLE", 0x100#11, 0x700#11, [.active], [.scan]⟩,
    ⟨"TRUNC", 0x100#11, 0x700#11, [.active], [.pay0, .pay1, .pay2]⟩,
    ⟨"CLOSE", 0x200#11, 0x700#11, [.active], [.scan, .pay0, .pay1, .pay2]⟩,
    ⟨"ERROR", 0x300#11, 0x700#11, [.active], [.scan, .pay0, .pay1, .pay2]⟩,
    ⟨"OPEN", 0x400#11, 0x700#11, [.closed], [.scan, .pay0, .pay1, .pay2]⟩,
    ⟨"REFUSED", 0x400#11, 0x700#11, [.active], [.scan, .pay0, .pay1, .pay2]⟩,
    ⟨"REFUSED", 0x000#11, 0x700#11, [.closed], [.scan, .pay0, .pay1, .pay2]⟩,
    ⟨"REFUSED", 0x100#11, 0x700#11, [.closed], [.scan, .pay0, .pay1, .pay2]⟩,
    ⟨"REFUSED", 0x200#11, 0x700#11, [.closed], [.scan, .pay0, .pay1, .pay2]⟩,
    ⟨"REFUSED", 0x300#11, 0x700#11, [.closed], [.scan, .pay0, .pay1, .pay2]⟩,
    ⟨"REFUSED", 0x500#11, 0x700#11, [.active, .closed], [.scan, .pay0, .pay1, .pay2]⟩,
    ⟨"REFUSED", 0x600#11, 0x600#11, [.active, .closed], [.scan, .pay0, .pay1, .pay2]⟩
  ]

/-- The frame rows of spec/opcode_table.json, in its order. -/
def frameTable : List FrameRow :=
  [
    ⟨"MOVEX", 0x000000FF#32, 0x0000FFFF#32⟩,
    ⟨"MOVEY", 0x000001FF#32, 0x0000FFFF#32⟩,
    ⟨"KEYH", 0x000002FF#32, 0x0000FFFF#32⟩,
    ⟨"KEYV", 0x000003FF#32, 0x0000FFFF#32⟩,
    ⟨"DROP", 0x000080FF#32, 0x000080FF#32⟩,
    ⟨"DROP", 0x000040FF#32, 0x0000C0FF#32⟩,
    ⟨"DROP", 0x000020FF#32, 0x0000E0FF#32⟩,
    ⟨"DROP", 0x000010FF#32, 0x0000F0FF#32⟩,
    ⟨"DROP", 0x000008FF#32, 0x0000F8FF#32⟩,
    ⟨"DROP", 0x000004FF#32, 0x0000FCFF#32⟩
  ]

/-- The mnemonic of an operation in spec/opcode_table.json. -/
def mnemonicOf : Instr → String
  | .sync => "SYNC"
  | .skip _ => "SKIP"
  | .cap0 _ => "CAP0"
  | .cap1 _ => "CAP1"
  | .cap2 _ => "CAP2"
  | .idle _ => "IDLE"
  | .trunc _ => "TRUNC"
  | .closeSession _ => "CLOSE"
  | .errorSession _ => "ERROR"
  | .openSession _ => "OPEN"
  | .refusedOpen _ => "REFUSED"
  | .refusedByte _ => "REFUSED"
  | .refusedTimeout _ => "REFUSED"
  | .refusedClose _ => "REFUSED"
  | .refusedError _ => "REFUSED"
  | .refusedKind5 _ => "REFUSED"
  | .refusedKind67 _ _ => "REFUSED"
  | .movex _ => "MOVEX"
  | .movey _ => "MOVEY"
  | .keyh _ => "KEYH"
  | .keyv _ => "KEYV"
  | .drop _ _ => "DROP"

/-! ### The host's words -/

/-- The word an opcode-table number stands for: up to 16 bits that fit an event word, or else up to 32 bits of a
frame word (log entry 9). -/
def readTableWord (nbits w : Nat) : Option PortWord :=
  if nbits ≤ 16 ∧ w < 2 ^ 11 then some (.event (BitVec.ofNat 11 w))
  else if nbits ≤ 32 ∧ w < 2 ^ 32 then some (.frame (BitVec.ofNat 32 w))
  else none

/-- The SESS and PHASE in which a bare event word is read: the first that the first matching row of the table
names (DESIGN CHOICE, log entry 10). -/
def tableState (ev : EventWord) : Sess × Phase :=
  match eventTable.find? (·.matchesWord ev) with
  | some ⟨_, _, _, sess :: _, phase :: _⟩ => (sess, phase)
  | _ => (.closed, .scan)

/-- What the decoder reads from an opcode-table number. -/
def decodeTableWord (nbits w : Nat) : Option Instr :=
  match readTableWord nbits w with
  | some (.event ev) => (decodeBytes (tableState ev).1 (tableState ev).2 (portBytes (.event ev))).toOption
  | some (.frame fw) => (decodeBytes .active .pay2 (portBytes (.frame fw))).toOption
  | none => none

end Sys2Proof
end

