-- ==== Sys2Proof/Machine/State.lean ====
section
/-! DEFINITION. The state of the block (10_state.md), its reset value (R220), and the reasons the spec names for a
refusal and a fault. -/

namespace Sys2Proof.Machine

/-- A 2-bit Key-State Table register (R25, R26): codes 0 UNASSERTED, 1 POSITIVE, 2 NEGATIVE, 3 illegal. -/
inductive KeyReg where
  | unasserted
  | positive
  | negative
  | illegal
  deriving DecidableEq, Repr

/-- The reason an END carries (R65): code 0 is CLOSED, code 1 is ERROR. -/
inductive EndReason where
  | closed
  | error
  deriving DecidableEq, Repr

/-- The output commands (R65). -/
inductive Command where
  /-- `MOVE(dx, dy)`, both 16-bit two's complement. -/
  | move (dx dy : RawValue)
  /-- `KEY_DOWN(k)`. -/
  | keyDown (k : Byte)
  /-- `KEY_UP(k)`. -/
  | keyUp (k : Byte)
  /-- `END(r)`. -/
  | endSession (r : EndReason)
  deriving DecidableEq, Repr

/-- The reasons of `fault(reason)` (R13). Both are raised inside a step, which then answers a NEXT state with the
FAULT mark set and nothing else written, the effect R13 and R159 give (log entry 4): no step of the model ends in a
host fault. Safe: a state with the mark is never an acceptable end state (R178). -/
inductive Fault where
  /-- CAP2 reads BUF0 or BUF1 when it holds no value (R105). -/
  | payloadBufferEmpty
  /-- KEYSTEP or RELEASE_ALL reads a KEY register that holds 3 (R159). -/
  | keyStateIllegal
  deriving DecidableEq, Repr

/-- The reasons of `refuse(reason)` (R13). The spec gives a refused event an effect, the REFUSED mark (log entry 3),
so its step answers a NEXT state. Safe: a state with the mark is never an acceptable end state (R178). -/
inductive Refusal where
  /-- An operation without a meaning. No arm of exec raises it. -/
  | notModelled (mnemonic : String)
  /-- BYTE, TIMEOUT, CLOSE or ERROR with no session open (R174). -/
  | noSession
  /-- OPEN with a session open (R175). -/
  | sessionAlreadyOpen
  /-- KIND 5, 6 or 7 (R176). -/
  | reservedKind
  deriving DecidableEq, Repr

/-- The complete state of the block (R29), OUT, the model-only marks (R28), and the events the environment has
placed on the input port. -/
structure State where
  /-- SESS (R21). -/
  sess : Sess
  /-- PHASE (R22). -/
  phase : Phase
  /-- BUF0, 8 bits or no value (R23). -/
  buf0 : Option Byte
  /-- BUF1, 8 bits or no value (R24). -/
  buf1 : Option Byte
  /-- KEY2 (R25). -/
  key2 : KeyReg
  /-- KEY3 (R26). -/
  key3 : KeyReg
  /-- OUT, oldest command first (R27). -/
  out : List Command
  /-- REFUSED, a model-only mark (R28). -/
  refused : Bool
  /-- FAULT, a model-only mark (R28). -/
  fault : Bool
  /-- The MODEL's own field: the input events (R63) that have not been examined yet, in arrival order
  (DESIGN CHOICE, log entry 1). -/
  input : List EventWord
  deriving DecidableEq, Repr

/-- The power-on state (R220), with no event placed on the input port. -/
def State.reset : State where
  sess := .closed
  phase := .scan
  buf0 := none
  buf1 := none
  key2 := .unasserted
  key3 := .unasserted
  out := []
  refused := false
  fault := false
  input := []

end Sys2Proof.Machine
end

