-- ==== Sys2Proof/Machine/Operands.lean ====
section
/-! DEFINITION. The operand forms: the value codec (41_value_codec.md), the register codes of 10_state.md and the
output command word (R65). -/

namespace Sys2Proof.Machine

/-- DECODE (R120): the axis id and the 16 bits of the value. It is total and checks nothing. -/
def decodeFrameWord (w : FrameWord) : Byte × RawValue := (frameAxis w, frameRaw w)

/-- `sext_16` (R9): the signed number the 16 bits of a value spell. -/
def sext16 (raw : RawValue) : Int := if raw.getLsbD 15 then (raw.toNat : Int) - 65536 else raw.toNat

/-- ENCODE (R122), the sender's side: the four bytes of a frame in wire order. `BitVec.ofInt` reduces modulo 65536. -/
def encodeFrameBytes (axis : Byte) (v : Int) : List Byte :=
  [Config.sync, axis, (BitVec.ofInt 16 v).extractLsb' 0 8, (BitVec.ofInt 16 v).extractLsb' 8 8]

/-- The code of SESS (R21). -/
def sessCode : Sess → BitVec 1
  | .closed => 0#1
  | .active => 1#1

/-- The code of PHASE (R22). -/
def phaseCode : Phase → BitVec 2
  | .scan => 0#2
  | .pay0 => 1#2
  | .pay1 => 2#2
  | .pay2 => 3#2

/-- The code of a KEY register (R25). -/
def keyCode : KeyReg → BitVec 2
  | .unasserted => 0#2
  | .positive => 1#2
  | .negative => 2#2
  | .illegal => 3#2

/-- The code of a symbol (R150). -/
def symbolCode : Symbol → BitVec 2
  | .neutral => 0#2
  | .positive => 1#2
  | .negative => 2#2

/-- The KEY register value that stores a symbol: NEUTRAL is stored as UNASSERTED (R153). -/
def keyOfSymbol : Symbol → KeyReg
  | .neutral => .unasserted
  | .positive => .positive
  | .negative => .negative

/-- The symbol a KEY register holds; the code 3 holds none (R25, R159). -/
def symbolOfKey : KeyReg → Option Symbol
  | .unasserted => some .neutral
  | .positive => some .positive
  | .negative => some .negative
  | .illegal => none

/-- The code of an END reason (R65, R202). -/
def reasonCode : EndReason → BitVec 1
  | .closed => 0#1
  | .error => 1#1

/-- The 34-bit word of a command: CKIND, then ARG (R65). -/
def commandWord : Command → CommandWord
  | .move dx dy => 0#2 ++ (dy ++ dx)
  | .keyDown k => 1#2 ++ (0#24 ++ k)
  | .keyUp k => 2#2 ++ (0#24 ++ k)
  | .endSession r => 3#2 ++ (0#31 ++ reasonCode r)

end Sys2Proof.Machine
end

