-- ==== Sys2Proof/Machine/Flags.lean ====
section
/-! DEFINITION. The block has no status flags and no rule writes one (R31). The one condition it computes is the
sign class of a value, SYMBOL (R150). -/

namespace Sys2Proof.Machine

/-- SYMBOL (R150): the sign of a value, with no dead band and no threshold. -/
def symbolOf (v : Int) : Symbol := if v > 0 then .positive else if v < 0 then .negative else .neutral

/-- The symbol of the 16 bits of a value (R120, R150). -/
def symbolOfRaw (raw : RawValue) : Symbol := symbolOf (sext16 raw)

end Sys2Proof.Machine
end

