-- ==== Sys2Proof/Machine/Ops.lean ====
section
/-! DEFINITION. The operations the meanings share: output, the marks, the payload buffers, the Key-State Table,
session teardown (the block's one trap, R206), and the input port. -/

namespace Sys2Proof.Machine

/-! ### Output, and the marks (R12, R13) -/

/-- `emit(c)` (R12). -/
def emit (c : Command) (s : State) : State := { s with out := s.out ++ [c] }

/-- The commands in this order (R12). -/
def emitAll (cs : List Command) (s : State) : State := { s with out := s.out ++ cs }

/-- `refuse(reason)` (R13): the mark and nothing else. The mark is one bit and does not record the reason. -/
def refuse (_reason : Refusal) (s : State) : State := { s with refused := true }

/-- `fault(reason)` (R13): the mark and nothing else. The mark is one bit and does not record the reason. -/
def markFault (_reason : Fault) (s : State) : State := { s with fault := true }

/-- One atomic step (R11, R46): all writes and commands of the rule together, or, where it faults, the FAULT mark
alone: it "writes nothing else and emits nothing" (R159). DEDUCED for the whole step, log entry 4. -/
def atomically (s : State) (rule : State → Except Fault State) : State :=
  match rule s with
  | .ok t => t
  | .error f => markFault f s

/-! ### The payload buffers -/

/-- `PHASE <- SCAN; BUF0 <- none; BUF1 <- none`, the decoder's session-start state (R105, R107, R108). -/
def rescan (s : State) : State := { s with phase := .scan, buf0 := none, buf1 := none }

/-! ### The Key-State Table -/

/-- KEYa (R25, R26). -/
def keyOf (a : DiscreteAxis) (s : State) : KeyReg :=
  match a with
  | .axis2 => s.key2
  | .axis3 => s.key3

/-- `KEYa <- k` (R25, R26). -/
def setKey (a : DiscreteAxis) (k : KeyReg) (s : State) : State :=
  match a with
  | .axis2 => { s with key2 := k }
  | .axis3 => { s with key3 := k }

/-- Reading KEYa: the code 3 faults (R159). -/
def readKey (a : DiscreteAxis) (s : State) : Except Fault Symbol :=
  match symbolOfKey (keyOf a s) with
  | some sym => .ok sym
  | none => .error .keyStateIllegal

/-- KEY_UP of the key a symbol asserts, if any (R153 step 4, R158). -/
def keyUpOf (a : DiscreteAxis) (sym : Symbol) : List Command :=
  match Config.keyMap a sym with
  | some k => [.keyUp k]
  | none => []

/-- KEY_DOWN of the key a symbol asserts, if any (R153 step 4). -/
def keyDownOf (a : DiscreteAxis) (sym : Symbol) : List Command :=
  match Config.keyMap a sym with
  | some k => [.keyDown k]
  | none => []

/-- KEYSTEP (R153). -/
def keyStep (a : DiscreteAxis) (raw : RawValue) (s : State) : Except Fault State :=
  match readKey a s with
  | .error f => .error f
  | .ok old =>
    if symbolOfRaw raw = old then .ok s
    else .ok (setKey a (keyOfSymbol (symbolOfRaw raw))
      (emitAll (keyUpOf a old ++ keyDownOf a (symbolOfRaw raw)) s))

/-- The release commands of the two axes in a teardown order (R158). -/
def arrangeReleases (order : TeardownOrder) (up2 up3 : List Command) : List Command :=
  match order with
  | .axis2First => up2 ++ up3
  | .axis3First => up3 ++ up2

/-- The release commands in the order `P_TEARDOWN_ORDER`, which matters only where both axes release a key (R158,
log entry 6). -/
def teardownReleases (up2 up3 : List Command) : List Command :=
  if up2 = [] then up3 else if up3 = [] then up2 else arrangeReleases Config.teardownOrder up2 up3

/-- RELEASE_ALL (R158), both axes at once: every held key released, both registers UNASSERTED. -/
def releaseAll (s : State) : Except Fault State :=
  match readKey .axis2 s, readKey .axis3 s with
  | .ok old2, .ok old3 =>
    .ok (setKey .axis3 .unasserted (setKey .axis2 .unasserted
      (emitAll (teardownReleases (keyUpOf .axis2 old2) (keyUpOf .axis3 old3)) s)))
  | .error f, _ => .error f
  | .ok _, .error f => .error f

/-- One turn of RELEASE_ALL's loop, as its pseudocode writes it (R158). -/
def releaseAxis (a : DiscreteAxis) (s : State) : Except Fault State :=
  match readKey a s with
  | .error f => .error f
  | .ok old => .ok (setKey a .unasserted (emitAll (keyUpOf a old) s))

/-- RELEASE_ALL as its pseudocode writes it, axis after axis (R158). `releaseAll` is the form the meanings call. -/
def releaseLoop (order : TeardownOrder) (s : State) : Except Fault State :=
  match order with
  | .axis2First => (releaseAxis .axis2 s).bind (releaseAxis .axis3)
  | .axis3First => (releaseAxis .axis3 s).bind (releaseAxis .axis2)

/-! ### Teardown: the block's one trap (R206). There is no return from it (R207). -/

/-- The teardown CLOSE and ERROR share: the partial payload is discarded, every held key released, END emitted
last, SESS closed (R171, R172, R173, R205). -/
def teardown (reason : EndReason) (s : State) : Except Fault State :=
  match releaseAll (rescan s) with
  | .error f => .error f
  | .ok t => .ok { emit (.endSession reason) t with sess := .closed }

/-! ### The input port -/

/-- The next event and the state that has taken it off the port (R20, R48). -/
def nextEvent (s : State) : Option (EventWord × State) :=
  match s.input with
  | [] => none
  | ev :: rest => some (ev, { s with input := rest })

/-- With no event to take, the block waits: nothing changes (R11, R204; DESIGN CHOICE, log entry 2). -/
def waitForEvent (s : State) : State := s

/-- The state in which the very next step runs the operation `decodeTableWord` reads from these bits (log
entry 10): an event word with the SESS and PHASE it is read in, or a frame with its first three bytes consumed and
its last byte next. Bits that are no word change nothing. -/
def placeTableWord (nbits w : Nat) (s : State) : State :=
  match readTableWord nbits w with
  | some (.event ev) =>
    { s with sess := (tableState ev).1, phase := (tableState ev).2, buf0 := none, buf1 := none, input := ev :: s.input }
  | some (.frame fw) =>
    if frameSync fw = Config.sync then
      { s with
        sess := .active
        phase := .pay2
        buf0 := some (frameAxis fw)
        buf1 := some (fw.extractLsb' 16 8)
        input := eventWord 0#3 (fw.extractLsb' 24 8) :: s.input }
    else s
  | none => s

end Sys2Proof.Machine
end

