-- ==== Sys2Proof/Machine/AxisDemux.lean ====
section
/-! DEFINITION. The axis demultiplexer and the five frame operations (42_axis_demux.md). -/

namespace Sys2Proof.Machine

/-- MOVEX's rule (R131). -/
def moveX (raw : RawValue) (s : State) : Except Fault State := .ok (emit (.move raw 0#16) s)

/-- MOVEY's rule (R132). -/
def moveY (raw : RawValue) (s : State) : Except Fault State := .ok (emit (.move 0#16 raw) s)

/-- KEYH's rule (R133). -/
def keyH (raw : RawValue) (s : State) : Except Fault State := keyStep .axis2 raw s

/-- KEYV's rule (R134). -/
def keyV (raw : RawValue) (s : State) : Except Fault State := keyStep .axis3 raw s

/-- DROP's rule (R135): nothing is written and nothing emitted. -/
def dropFrame (s : State) : Except Fault State := .ok s

/-- DISPATCH (R130): decode the frame word and run the operation of its axis, in the same step. -/
def dispatch (w : FrameWord) (s : State) : Except Fault State :=
  match decodeFrameWord w with
  | (axis, raw) =>
    if axis = Config.axisMoveX then moveX raw s
    else if axis = Config.axisMoveY then moveY raw s
    else if axis = Config.axisKeyH then keyH raw s
    else if axis = Config.axisKeyV then keyV raw s
    else dropFrame s

/-- MOVEX (R131). -/
def execMovex (raw : RawValue) (s : State) : Host.Outcome State Fault Refusal := .next (atomically s (moveX raw))

/-- MOVEY (R132). -/
def execMovey (raw : RawValue) (s : State) : Host.Outcome State Fault Refusal := .next (atomically s (moveY raw))

/-- KEYH (R133). -/
def execKeyh (raw : RawValue) (s : State) : Host.Outcome State Fault Refusal := .next (atomically s (keyH raw))

/-- KEYV (R134). -/
def execKeyv (raw : RawValue) (s : State) : Host.Outcome State Fault Refusal := .next (atomically s (keyV raw))

/-- DROP (R135): neither the axis id nor the value is used. -/
def execDrop (s : State) : Host.Outcome State Fault Refusal := .next (atomically s dropFrame)

end Sys2Proof.Machine
end

