-- ==== Sys2Proof/Machine/FrameDecoder.lean ====
section
/-! DEFINITION. The Frame Decoder's operations (40_frame_decoder.md). SESS and PHASE select them (R67); the rules
themselves test neither. -/

namespace Sys2Proof.Machine

/-- SYNC (R101). -/
def execSync (s : State) : Host.Outcome State Fault Refusal := .next { s with phase := .pay0 }

/-- SKIP (R102): no register written, no command emitted. -/
def execSkip (s : State) : Host.Outcome State Fault Refusal := .next s

/-- CAP0 (R103). -/
def execCap0 (b : Byte) (s : State) : Host.Outcome State Fault Refusal :=
  .next { s with buf0 := some b, phase := .pay1 }

/-- CAP1 (R104). -/
def execCap1 (b : Byte) (s : State) : Host.Outcome State Fault Refusal :=
  .next { s with buf1 := some b, phase := .pay2 }

/-- CAP2's rule (R105): the frame completes and DISPATCH runs in this same step. -/
def completeFrame (b : Byte) (s : State) : Except Fault State :=
  match s.buf0, s.buf1 with
  | some p0, some p1 => dispatch (packFrame b p1 p0) (rescan s)
  | _, _ => .error .payloadBufferEmpty

/-- CAP2 (R105). -/
def execCap2 (b : Byte) (s : State) : Host.Outcome State Fault Refusal := .next (atomically s (completeFrame b))

/-- IDLE (R106): no register written, no command emitted. -/
def execIdle (s : State) : Host.Outcome State Fault Refusal := .next s

/-- TRUNC (R107): the partial payload is discarded, whatever its length. -/
def execTrunc (s : State) : Host.Outcome State Fault Refusal := .next (rescan s)

end Sys2Proof.Machine
end

