-- ==== Sys2Proof/Machine/Session.lean ====
section
/-! DEFINITION. The session control operations and the refused events (44_session.md). -/

namespace Sys2Proof.Machine

/-- OPEN (R170): every register at its session-start value, OUT and the marks kept. -/
def execOpenSession (s : State) : Host.Outcome State Fault Refusal :=
  .next { rescan s with sess := .active, key2 := .unasserted, key3 := .unasserted }

/-- CLOSE (R171). -/
def execCloseSession (s : State) : Host.Outcome State Fault Refusal := .next (atomically s (teardown .closed))

/-- ERROR (R172). -/
def execErrorSession (s : State) : Host.Outcome State Fault Refusal := .next (atomically s (teardown .error))

/-- OPEN while a session is active (R175). -/
def execRefusedOpen (s : State) : Host.Outcome State Fault Refusal := .next (refuse .sessionAlreadyOpen s)

/-- BYTE with no session open (R174). -/
def execRefusedByte (s : State) : Host.Outcome State Fault Refusal := .next (refuse .noSession s)

/-- TIMEOUT with no session open (R174). -/
def execRefusedTimeout (s : State) : Host.Outcome State Fault Refusal := .next (refuse .noSession s)

/-- CLOSE with no session open (R174). -/
def execRefusedClose (s : State) : Host.Outcome State Fault Refusal := .next (refuse .noSession s)

/-- ERROR with no session open (R174). -/
def execRefusedError (s : State) : Host.Outcome State Fault Refusal := .next (refuse .noSession s)

/-- KIND 5 (R176). -/
def execRefusedKind5 (s : State) : Host.Outcome State Fault Refusal := .next (refuse .reservedKind s)

/-- KIND 6 or 7 (R176). -/
def execRefusedKind67 (s : State) : Host.Outcome State Fault Refusal := .next (refuse .reservedKind s)

end Sys2Proof.Machine
end

