-- ==== Sys2Proof/Machine/Dispatch.lean ====
section
/-! DEFINITION. The meaning of every operation, one arm per constructor. -/

namespace Sys2Proof.Machine

-- The DATA field of a kind other than BYTE is ignored (R64), and so are DROP's fields (R135).
def exec (i : Instr) (s : State) : Host.Outcome State Fault Refusal :=
  match i with
  | .sync => Sys2Proof.Machine.execSync s
  | .skip _ => Sys2Proof.Machine.execSkip s
  | .cap0 b => Sys2Proof.Machine.execCap0 b s
  | .cap1 b => Sys2Proof.Machine.execCap1 b s
  | .cap2 b => Sys2Proof.Machine.execCap2 b s
  | .idle _ => Sys2Proof.Machine.execIdle s
  | .trunc _ => Sys2Proof.Machine.execTrunc s
  | .closeSession _ => Sys2Proof.Machine.execCloseSession s
  | .errorSession _ => Sys2Proof.Machine.execErrorSession s
  | .openSession _ => Sys2Proof.Machine.execOpenSession s
  | .refusedOpen _ => Sys2Proof.Machine.execRefusedOpen s
  | .refusedByte _ => Sys2Proof.Machine.execRefusedByte s
  | .refusedTimeout _ => Sys2Proof.Machine.execRefusedTimeout s
  | .refusedClose _ => Sys2Proof.Machine.execRefusedClose s
  | .refusedError _ => Sys2Proof.Machine.execRefusedError s
  | .refusedKind5 _ => Sys2Proof.Machine.execRefusedKind5 s
  | .refusedKind67 _ _ => Sys2Proof.Machine.execRefusedKind67 s
  | .movex raw => Sys2Proof.Machine.execMovex raw s
  | .movey raw => Sys2Proof.Machine.execMovey raw s
  | .keyh raw => Sys2Proof.Machine.execKeyh raw s
  | .keyv raw => Sys2Proof.Machine.execKeyv raw s
  | .drop _ _ => Sys2Proof.Machine.execDrop s

end Sys2Proof.Machine
end

