-- ==== Sys2Proof/Machine/Step.lean ====
section
/-! DEFINITION. One step of the block: one input event, examined in arrival order (R11, R20). -/

namespace Sys2Proof.Machine

/-- One step: the next event selects its operation by SESS and PHASE (R67), and that operation runs. -/
def step (s : State) : Host.Outcome State Fault Refusal :=
  match nextEvent s with
  | none => .next (waitForEvent s)
  | some (ev, t) => exec (decodeEvent t.sess t.phase ev) t

/-- `s` with these bits placed where the very next step runs them (log entry 10). -/
def State.withFetchWord (s : State) (nbits w : Nat) : State := placeTableWord nbits w s

end Sys2Proof.Machine
end

