-- ==== Sys2Proof/Safety.lean ====
section
/-! DEFINITION. What counts as a good state and a good run (R35, R155, R178), in the terms the statements use. -/

namespace Sys2Proof.Machine

/-! ### The register invariants (R35) -/

/-- BUF0 holds a value exactly in PAY1 and PAY2 (R35, first item). -/
abbrev Buf0Fits (s : State) : Prop := s.buf0.isSome = true ↔ s.phase = .pay1 ∨ s.phase = .pay2

/-- BUF1 holds a value exactly in PAY2 (R35, second item). -/
abbrev Buf1Fits (s : State) : Prop := s.buf1.isSome = true ↔ s.phase = .pay2

/-- No KEY register holds 3 (R35, third item). -/
abbrev KeysLegal (s : State) : Prop := s.key2 ≠ .illegal ∧ s.key3 ≠ .illegal

/-- With no session open, every register but SESS is at its session-start value (R35, fourth item). -/
abbrev ClosedIsIdle (s : State) : Prop :=
  s.sess = .closed →
    s.phase = .scan ∧ s.buf0 = none ∧ s.buf1 = none ∧ s.key2 = .unasserted ∧ s.key3 = .unasserted

/-- The invariants of R35 together. -/
abbrev RegistersFit (s : State) : Prop := Buf0Fits s ∧ Buf1Fits s ∧ KeysLegal s ∧ ClosedIsIdle s

/-! ### The history of the key commands (R155) -/

/-- Is this one of the axis's two keys? (R151) -/
def isKeyOf (a : DiscreteAxis) (k : Byte) : Bool :=
  Config.keyMap a .positive == some k || Config.keyMap a .negative == some k

/-- Is this command a KEY_DOWN of the axis? -/
def pressesOn (a : DiscreteAxis) : Command → Bool
  | .keyDown k => isKeyOf a k
  | _ => false

/-- Is this command a KEY_UP of the axis? -/
def releasesOn (a : DiscreteAxis) : Command → Bool
  | .keyUp k => isKeyOf a k
  | _ => false

/-- The key held on the axis after one more command: `some none` is no key held, and `none` is a broken history,
where a KEY_DOWN came while a key of the axis was held, or a KEY_UP released another key than the held one. -/
def trackKey (a : DiscreteAxis) : Option (Option Byte) → Command → Option (Option Byte)
  | none, _ => none
  | some held, .keyDown k => if isKeyOf a k then (if held = none then some (some k) else none) else some held
  | some held, .keyUp k => if isKeyOf a k then (if held = some k then some none else none) else some held
  | some held, .move _ _ => some held
  | some held, .endSession _ => some held

/-- The key held on the axis after these commands, from no key held. -/
def heldAfter (a : DiscreteAxis) (cs : List Command) : Option (Option Byte) := cs.foldl (trackKey a) (some none)

/-- The key a KEY register asserts (R152): none for UNASSERTED, and for the illegal code. -/
def assertedKey (a : DiscreteAxis) (k : KeyReg) : Option Byte := (symbolOfKey k).bind (Config.keyMap a)

/-- The commands in OUT alternate on each axis and leave held exactly the key that the KEY register asserts
(R152, R155). -/
abbrev HistoryFits (s : State) : Prop :=
  heldAfter .axis2 s.out = some (assertedKey .axis2 s.key2) ∧
  heldAfter .axis3 s.out = some (assertedKey .axis3 s.key3)

/-! ### Sessions -/

/-- Is this command an END? -/
def isEnd : Command → Bool
  | .endSession _ => true
  | _ => false

/-- With no session open, OUT is empty or ends with an END (R173). -/
abbrev EndIsLast (s : State) : Prop :=
  s.sess = .closed → s.out = [] ∨ ∃ r, s.out.getLast? = some (.endSession r)

/-! ### Runs -/

/-- The power-on state with an event sequence on the input port (R20, R220; log entry 1). -/
def powerOn (events : List EventWord) : State := { State.reset with input := events }

/-- The states of runs: any event sequence, applied from the power-on state (R178). -/
inductive Reachable : State → Prop
  | powerOn (events : List EventWord) : Reachable (powerOn events)
  | next (s t : State) : Reachable s → step s = .next t → Reachable t

/-- The end of a complete run (R178): every event examined, none refused, no fault, no session open. -/
abbrev Complete (s : State) : Prop :=
  s.input = [] ∧ s.refused = false ∧ s.fault = false ∧ s.sess = .closed

/-! ### The KEYSTEP transition table (R153), written out -/

/-- The KEY code before, the symbol, the commands in order, the KEY code after: the nine rows of R153 over the
axis's positive key `p` and negative key `n`. -/
def keyTransition (p n : Byte) : KeyReg → Symbol → Option (List Command × KeyReg)
  | .unasserted, .neutral => some ([], .unasserted)
  | .unasserted, .positive => some ([.keyDown p], .positive)
  | .unasserted, .negative => some ([.keyDown n], .negative)
  | .positive, .neutral => some ([.keyUp p], .unasserted)
  | .positive, .positive => some ([], .positive)
  | .positive, .negative => some ([.keyUp p, .keyDown n], .negative)
  | .negative, .neutral => some ([.keyUp n], .unasserted)
  | .negative, .positive => some ([.keyUp n, .keyDown p], .positive)
  | .negative, .negative => some ([], .negative)
  | .illegal, _ => none

/-- The KEY_UP a teardown emits for a KEY register with positive key `p` and negative key `n` (R158). -/
def releaseOf (p n : Byte) : KeyReg → List Command
  | .unasserted => []
  | .positive => [.keyUp p]
  | .negative => [.keyUp n]
  | .illegal => []

end Sys2Proof.Machine
end

