-- ==== Sys2Proof/Certificates/Slice0/Obligations.lean ====
section
/-! DEFINITION. The statements about the block, for the provers. Literals stand for the spec's constants, so that a
wrong constant of Config falsifies them. -/

open Sys2Proof Sys2Proof.Machine

/-! ### Reset, the input port, and the marks -/

/-- R220, which the spec marks as its own decision D14: the power-on state; of all events only OPEN is admitted in
it, and every other event is refused. That no event is on the port is the model's choice (log entry 1). -/
def Obligations.ResetIsPowerOnState : Prop :=
  State.reset.sess = .closed ∧ State.reset.phase = .scan ∧ State.reset.buf0 = none ∧ State.reset.buf1 = none ∧
  State.reset.key2 = .unasserted ∧ State.reset.key3 = .unasserted ∧ State.reset.out = [] ∧
  State.reset.refused = false ∧ State.reset.fault = false ∧ State.reset.input = [] ∧
  ∀ ev, if kindOf ev = 4#3 then decodeEvent State.reset.sess State.reset.phase ev = .openSession (dataOf ev)
    else mnemonicOf (decodeEvent State.reset.sess State.reset.phase ev) = "REFUSED"

/-- The invariants of R35, R155 and R173 hold at power-on, whatever events are on the port. -/
def Obligations.PowerOnMeetsInvariants : Prop :=
  ∀ events, RegistersFit (powerOn events) ∧ HistoryFits (powerOn events) ∧ EndIsLast (powerOn events)

/-- R11, R20, R67: a step takes the first event off the port, and SESS, PHASE and the event select the operation
it runs; that operation is well-formed, admitted in that state, and encoded by that event. The port as a queue is
the model's own (log entry 1). -/
def Obligations.StepRunsDecodedEvent : Prop :=
  ∀ s ev rest, s.input = ev :: rest →
    step s = exec (decodeEvent s.sess s.phase ev) { s with input := rest } ∧
    (decodeEvent s.sess s.phase ev).wellFormed = true ∧
    (decodeEvent s.sess s.phase ev).admittedIn s.sess s.phase = true ∧
    encodeWord (decodeEvent s.sess s.phase ev) = .event ev

/-- The model's choice (log entry 2): with no event on the port, a step changes nothing. -/
def Obligations.NoEventChangesNothing : Prop := ∀ s, s.input = [] → step s = .next s

/-- The model's choice (log entries 3 and 4), after R13: no operation and no step ends in a host fault or refusal. -/
def Obligations.EveryStepAnswersNext : Prop :=
  (∀ i s, ∃ t, exec i s = .next t) ∧ ∀ s, ∃ t, step s = .next t

/-- R174, which the spec marks as its own decision D11: with no session open, BYTE, TIMEOUT, CLOSE and ERROR are
selected as refusals in every PHASE and with every DATA, and each sets the REFUSED mark and changes nothing else. -/
def Obligations.NoSessionIsRefused : Prop :=
  (∀ phase ev,
    (kindOf ev = 0#3 → decodeEvent .closed phase ev = .refusedByte (dataOf ev)) ∧
    (kindOf ev = 1#3 → decodeEvent .closed phase ev = .refusedTimeout (dataOf ev)) ∧
    (kindOf ev = 2#3 → decodeEvent .closed phase ev = .refusedClose (dataOf ev)) ∧
    (kindOf ev = 3#3 → decodeEvent .closed phase ev = .refusedError (dataOf ev))) ∧
  ∀ data s,
    exec (.refusedByte data) s = .next { s with refused := true } ∧
    exec (.refusedTimeout data) s = .next { s with refused := true } ∧
    exec (.refusedClose data) s = .next { s with refused := true } ∧
    exec (.refusedError data) s = .next { s with refused := true }

/-- R175, which the spec marks as its own decision D12: OPEN with a session open. -/
def Obligations.SecondOpenIsRefused : Prop :=
  (∀ phase ev, kindOf ev = 4#3 → decodeEvent .active phase ev = .refusedOpen (dataOf ev)) ∧
  ∀ data s, exec (.refusedOpen data) s = .next { s with refused := true }

/-- R176, which the spec marks as its own decision D13: the reserved kinds 5, 6 and 7, in every state. -/
def Obligations.ReservedKindIsRefused : Prop :=
  (∀ sess phase ev,
    (kindOf ev = 5#3 → decodeEvent sess phase ev = .refusedKind5 (dataOf ev)) ∧
    (kindOf ev = 6#3 → decodeEvent sess phase ev = .refusedKind67 0#1 (dataOf ev)) ∧
    (kindOf ev = 7#3 → decodeEvent sess phase ev = .refusedKind67 1#1 (dataOf ev))) ∧
  ∀ low data s,
    exec (.refusedKind5 data) s = .next { s with refused := true } ∧
    exec (.refusedKind67 low data) s = .next { s with refused := true }

/-- R13 and R28, which the spec marks as its own decision D11: no step clears a mark, and a step that sets REFUSED
changes nothing else. That a step that sets FAULT changes nothing else either, also where it would already have
written or emitted something, is the model's reading of R159 and R105 (log entry 4, DEDUCED). That the event leaves
the port is the model's too: log entry 3 for a refused event, log entry 4 for one that faults, over the model's own
port (log entry 1). -/
def Obligations.MarksAreStickyAndChangeNothingElse : Prop :=
  ∀ s t, step s = .next t →
    (s.refused = true → t.refused = true) ∧ (s.fault = true → t.fault = true) ∧
    (s.refused = false → t.refused = true → t = { s with refused := true, input := s.input.tail }) ∧
    (s.fault = false → t.fault = true → t = { s with fault := true, input := s.input.tail })

/-! ### The Frame Decoder (40_frame_decoder.md) -/

/-- R101. -/
def Obligations.SyncStartsPayload : Prop :=
  (∀ sess phase ev, decodeEvent sess phase ev = .sync ↔ sess = .active ∧ phase = .scan ∧ ev = 0x0FF#11) ∧
  ∀ s, exec .sync s = .next { s with phase := .pay0 }

/-- R102. -/
def Obligations.SkipChangesNothing : Prop :=
  (∀ sess phase ev b, decodeEvent sess phase ev = .skip b ↔
    sess = .active ∧ phase = .scan ∧ kindOf ev = 0#3 ∧ dataOf ev = b ∧ b ≠ 0xFF#8) ∧
  ∀ b s, exec (.skip b) s = .next s

/-- R103. -/
def Obligations.Cap0StoresAxisByte : Prop :=
  (∀ sess phase ev b, decodeEvent sess phase ev = .cap0 b ↔
    sess = .active ∧ phase = .pay0 ∧ kindOf ev = 0#3 ∧ dataOf ev = b) ∧
  ∀ b s, exec (.cap0 b) s = .next { s with buf0 := some b, phase := .pay1 }

/-- R104. -/
def Obligations.Cap1StoresLowByte : Prop :=
  (∀ sess phase ev b, decodeEvent sess phase ev = .cap1 b ↔
    sess = .active ∧ phase = .pay1 ∧ kindOf ev = 0#3 ∧ dataOf ev = b) ∧
  ∀ b s, exec (.cap1 b) s = .next { s with buf1 := some b, phase := .pay2 }

/-- R105: CAP2 is every BYTE in PAY2; it forms the frame word, returns to SCAN with empty buffers, and runs the
frame's operation in the same step, wherever that operation reads no illegal KEY register (a frame of axis 2 or 3
with its KEY register illegal is `IllegalKeyFaults`'s). R105 says that an empty buffer faults; that CAP2 then changes
nothing but FAULT is the model's reading (log entry 4, DEDUCED). -/
def Obligations.Cap2CompletesFrame : Prop :=
  (∀ sess phase ev b, decodeEvent sess phase ev = .cap2 b ↔
    sess = .active ∧ phase = .pay2 ∧ kindOf ev = 0#3 ∧ dataOf ev = b) ∧
  (∀ s b p0 p1, s.buf0 = some p0 → s.buf1 = some p1 →
    (p0 = 0x02#8 → s.key2 ≠ .illegal) → (p0 = 0x03#8 → s.key3 ≠ .illegal) →
    ∃ i t, decodeFrame (b ++ p1 ++ p0 ++ 0xFF#8) = .ok i ∧
      exec (.cap2 b) s = .next t ∧
      exec i { s with phase := .scan, buf0 := none, buf1 := none } = .next t ∧
      t.phase = .scan ∧ t.buf0 = none ∧ t.buf1 = none ∧ t.sess = s.sess ∧
      t.refused = s.refused ∧ t.fault = s.fault ∧ t.input = s.input) ∧
  ∀ s b, s.buf0 = none ∨ s.buf1 = none → exec (.cap2 b) s = .next { s with fault := true }

/-- R106, whose TIMEOUT event the spec marks as its own decision D7. -/
def Obligations.IdleChangesNothing : Prop :=
  (∀ sess phase ev data, decodeEvent sess phase ev = .idle data ↔
    sess = .active ∧ phase = .scan ∧ kindOf ev = 1#3 ∧ dataOf ev = data) ∧
  ∀ data s, exec (.idle data) s = .next s

/-- R107. -/
def Obligations.TruncDiscardsPayload : Prop :=
  (∀ sess phase ev data, decodeEvent sess phase ev = .trunc data ↔
    sess = .active ∧ phase ≠ .scan ∧ kindOf ev = 1#3 ∧ dataOf ev = data) ∧
  ∀ data s, exec (.trunc data) s = .next { s with phase := .scan, buf0 := none, buf1 := none }

/-! ### The frame operations (42_axis_demux.md, 43_discrete_axis.md) -/

/-- R131: any value, also 0 and the extremes, as one MOVE; no register is written. -/
def Obligations.MovexEmitsOneMove : Prop :=
  (∀ w raw, decodeFrame w = .ok (.movex raw) ↔ w = raw ++ 0x00FF#16) ∧
  ∀ raw s, exec (.movex raw) s = .next { s with out := s.out ++ [.move raw 0#16] }

/-- R132. -/
def Obligations.MoveyEmitsOneMove : Prop :=
  (∀ w raw, decodeFrame w = .ok (.movey raw) ↔ w = raw ++ 0x01FF#16) ∧
  ∀ raw s, exec (.movey raw) s = .next { s with out := s.out ++ [.move 0#16 raw] }

/-- R133 with KEYSTEP(2, value) (R153): the nine transitions of axis 2, keys 'd' and 'a'. -/
def Obligations.KeyhFollowsTransitionTable : Prop :=
  (∀ w raw, decodeFrame w = .ok (.keyh raw) ↔ w = raw ++ 0x02FF#16) ∧
  ∀ raw s, s.key2 ≠ .illegal →
    ∃ cs k, keyTransition 0x64#8 0x61#8 s.key2 (symbolOf raw.toInt) = some (cs, k) ∧
      exec (.keyh raw) s = .next { s with key2 := k, out := s.out ++ cs }

/-- R134 with KEYSTEP(3, value) (R153): the nine transitions of axis 3, keys 'w' and 's'. -/
def Obligations.KeyvFollowsTransitionTable : Prop :=
  (∀ w raw, decodeFrame w = .ok (.keyv raw) ↔ w = raw ++ 0x03FF#16) ∧
  ∀ raw s, s.key3 ≠ .illegal →
    ∃ cs k, keyTransition 0x77#8 0x73#8 s.key3 (symbolOf raw.toInt) = some (cs, k) ∧
      exec (.keyv raw) s = .next { s with key3 := k, out := s.out ++ cs }

/-- R135: a frame with an axis id from 4 to 255 is dropped; nothing is written and nothing emitted. -/
def Obligations.DropChangesNothing : Prop :=
  (∀ w axis raw, decodeFrame w = .ok (.drop axis raw) ↔ w = raw ++ axis ++ 0xFF#8 ∧ 4 ≤ axis.toNat) ∧
  ∀ axis raw s, exec (.drop axis raw) s = .next s

/-- R159, which the spec marks as its own decision D6, with log entry 4: an operation that reads a KEY register
holding 3 sets the FAULT mark, writes nothing else and emits nothing. -/
def Obligations.IllegalKeyFaults : Prop :=
  (∀ raw s, s.key2 = .illegal → exec (.keyh raw) s = .next { s with fault := true }) ∧
  (∀ raw s, s.key3 = .illegal → exec (.keyv raw) s = .next { s with fault := true }) ∧
  (∀ data s, s.key2 = .illegal ∨ s.key3 = .illegal →
    exec (.closeSession data) s = .next { s with fault := true } ∧
    exec (.errorSession data) s = .next { s with fault := true }) ∧
  (∀ b p1 s, s.buf0 = some 0x02#8 → s.buf1 = some p1 → s.key2 = .illegal →
    exec (.cap2 b) s = .next { s with fault := true }) ∧
  (∀ b p1 s, s.buf0 = some 0x03#8 → s.buf1 = some p1 → s.key3 = .illegal →
    exec (.cap2 b) s = .next { s with fault := true })

/-- R136: MOVEX and MOVEY append one MOVE that no register takes part in; a discrete frame touches its own KEY
register and its own keys only; a dropped frame does nothing. -/
def Obligations.FramesKeepToTheirAxis : Prop :=
  ∀ w s t, dispatch w s = .ok t →
    (frameAxis w = 0x00#8 → t = { s with out := s.out ++ [.move (frameRaw w) 0#16] }) ∧
    (frameAxis w = 0x01#8 → t = { s with out := s.out ++ [.move 0#16 (frameRaw w)] }) ∧
    (frameAxis w = 0x02#8 → ∃ cs, t = { s with key2 := t.key2, out := s.out ++ cs } ∧
      ∀ c ∈ cs, pressesOn .axis2 c = true ∨ releasesOn .axis2 c = true) ∧
    (frameAxis w = 0x03#8 → ∃ cs, t = { s with key3 := t.key3, out := s.out ++ cs } ∧
      ∀ c ∈ cs, pressesOn .axis3 c = true ∨ releasesOn .axis3 c = true) ∧
    (4 ≤ (frameAxis w).toNat → t = s)

/-- R154: KEYSTEP of one axis reads and writes that axis's KEY register only and emits that axis's keys only, and
both axes may have a key asserted at the same time. -/
def Obligations.DiscreteAxesAreIndependent : Prop :=
  (∀ a raw s s' t, keyOf a s = keyOf a s' → keyStep a raw s = .ok t →
    ∃ cs k, t = setKey a k (emitAll cs s) ∧ keyStep a raw s' = .ok (setKey a k (emitAll cs s')) ∧
      ∀ c ∈ cs, pressesOn a c = true ∨ releasesOn a c = true) ∧
  ∃ s, Reachable s ∧ s.key2 = .positive ∧ s.key3 = .positive

/-- R157, which the spec derives from R153: after a sample, a second sample of the same symbol with no sample of
the axis in between does nothing, and the first emits at most one release and one press. -/
def Obligations.RepeatedSampleIsSilent : Prop :=
  ∀ a raw raw' s t u, symbolOf raw.toInt = symbolOf raw'.toInt → keyStep a raw s = .ok t → keyOf a u = keyOf a t →
    keyStep a raw' u = .ok u ∧
    ∃ cs, t.out = s.out ++ cs ∧ cs.length ≤ 2 ∧
      (cs.filter (pressesOn a)).length ≤ 1 ∧ (cs.filter (releasesOn a)).length ≤ 1

/-- R158: RELEASE_ALL is its pseudocode's loop, in the order of `P_TEARDOWN_ORDER`; it faults exactly when a
register holds 3; and for either order the loop releases each held key once and leaves both registers
UNASSERTED. -/
def Obligations.ReleaseAllIsItsLoop : Prop :=
  (∀ s, releaseAll s = releaseLoop Config.teardownOrder s) ∧
  (∀ s order, s.key2 ≠ .illegal → s.key3 ≠ .illegal →
    releaseLoop order s = .ok { s with
      key2 := .unasserted, key3 := .unasserted,
      out := s.out ++ (match order with
        | .axis2First => releaseOf 0x64#8 0x61#8 s.key2 ++ releaseOf 0x77#8 0x73#8 s.key3
        | .axis3First => releaseOf 0x77#8 0x73#8 s.key3 ++ releaseOf 0x64#8 0x61#8 s.key2) }) ∧
  ∀ s order, s.key2 = .illegal ∨ s.key3 = .illegal → releaseLoop order s = .error .keyStateIllegal

/-! ### Sessions (44_session.md) -/

/-- R170. -/
def Obligations.OpenStartsSession : Prop :=
  (∀ sess phase ev data, decodeEvent sess phase ev = .openSession data ↔
    sess = .closed ∧ kindOf ev = 4#3 ∧ dataOf ev = data) ∧
  ∀ data s, exec (.openSession data) s = .next { s with
    sess := .active, phase := .scan, buf0 := none, buf1 := none, key2 := .unasserted, key3 := .unasserted }

/-- R171: CLOSE, with the releases in the order of `P_TEARDOWN_ORDER`. -/
def Obligations.CloseTearsDownSession : Prop :=
  (∀ sess phase ev data, decodeEvent sess phase ev = .closeSession data ↔
    sess = .active ∧ kindOf ev = 2#3 ∧ dataOf ev = data) ∧
  ∀ data s, s.key2 ≠ .illegal → s.key3 ≠ .illegal →
    exec (.closeSession data) s = .next { s with
      sess := .closed, phase := .scan, buf0 := none, buf1 := none, key2 := .unasserted, key3 := .unasserted,
      out := s.out ++ (match Config.teardownOrder with
        | .axis2First => releaseOf 0x64#8 0x61#8 s.key2 ++ releaseOf 0x77#8 0x73#8 s.key3
        | .axis3First => releaseOf 0x77#8 0x73#8 s.key3 ++ releaseOf 0x64#8 0x61#8 s.key2) ++ [.endSession .closed] }

/-- R172: ERROR, the same teardown with the other reason. -/
def Obligations.ErrorTearsDownSession : Prop :=
  (∀ sess phase ev data, decodeEvent sess phase ev = .errorSession data ↔
    sess = .active ∧ kindOf ev = 3#3 ∧ dataOf ev = data) ∧
  ∀ data s, s.key2 ≠ .illegal → s.key3 ≠ .illegal →
    exec (.errorSession data) s = .next { s with
      sess := .closed, phase := .scan, buf0 := none, buf1 := none, key2 := .unasserted, key3 := .unasserted,
      out := s.out ++ (match Config.teardownOrder with
        | .axis2First => releaseOf 0x64#8 0x61#8 s.key2 ++ releaseOf 0x77#8 0x73#8 s.key3
        | .axis3First => releaseOf 0x77#8 0x73#8 s.key3 ++ releaseOf 0x64#8 0x61#8 s.key2) ++ [.endSession .error] }

/-- R223: what OPEN leaves depends on nothing of the earlier state but OUT and the model-only marks (and the events
still on the port, the model's own field, log entry 1). -/
def Obligations.OpenForgetsEarlierSession : Prop :=
  ∀ data s s', s.out = s'.out → s.refused = s'.refused → s.fault = s'.fault → s.input = s'.input →
    exec (.openSession data) s = exec (.openSession data) s'

/-- R177: in a session, only CLOSE and ERROR end it; SKIP, IDLE, TRUNC and DROP neither end it nor surface anything;
with no session open, OPEN starts one. -/
def Obligations.OnlyCloseAndErrorEndSession : Prop :=
  (∀ s t, step s = .next t → s.sess = .active → t.sess = .closed →
    ∃ ev rest, s.input = ev :: rest ∧ (kindOf ev = 2#3 ∨ kindOf ev = 3#3)) ∧
  (∀ b data axis raw s t, exec (.skip b) s = .next t ∨ exec (.idle data) s = .next t ∨
    exec (.trunc data) s = .next t ∨ exec (.drop axis raw) s = .next t →
    t.sess = s.sess ∧ t.out = s.out ∧ t.refused = s.refused ∧ t.fault = s.fault) ∧
  ∀ s ev rest, s.sess = .closed → s.input = ev :: rest → kindOf ev = 4#3 → ∃ t, step s = .next t ∧ t.sess = .active

/-- R173, which the spec marks as its own decision D10: a step emits an END exactly when it ends a session, as its
last command, with reason CLOSED for CLOSE and ERROR for ERROR. -/
def Obligations.EndMarksExactlySessionEnds : Prop :=
  ∀ s t, step s = .next t →
    (t.out.filter isEnd).length =
      (s.out.filter isEnd).length + (if s.sess = .active ∧ t.sess = .closed then 1 else 0) ∧
    (s.sess = .active → t.sess = .closed →
      (t.out.getLast? = some (.endSession .closed) ∧ ∃ ev rest, s.input = ev :: rest ∧ kindOf ev = 2#3) ∨
      (t.out.getLast? = some (.endSession .error) ∧ ∃ ev rest, s.input = ev :: rest ∧ kindOf ev = 3#3))

/-! ### Values, words and tables -/

/-- R42, R120 and R121 (the last derived by the spec): the axis id is the first payload byte; the value is the next
two, little-endian and two's complement; its sign is the top bit of the second, and it is zero exactly when both
are. -/
def Obligations.ValueIsLittleEndianTwosComplement : Prop :=
  ∀ p0 p1 p2 : Byte,
    decodeFrameWord (p2 ++ p1 ++ p0 ++ 0xFF#8) = (p0, p2 ++ p1) ∧
    sext16 (p2 ++ p1) = (if p2.toNat < 0x80 then (p1.toNat : Int) + 256 * p2.toNat
      else (p1.toNat : Int) + 256 * p2.toNat - 65536) ∧
    -32768 ≤ sext16 (p2 ++ p1) ∧ sext16 (p2 ++ p1) ≤ 32767 ∧
    (sext16 (p2 ++ p1) < 0 ↔ 0x80 ≤ p2.toNat) ∧ (sext16 (p2 ++ p1) = 0 ↔ p1 = 0#8 ∧ p2 = 0#8)

/-- R150, whose codes the spec marks as its own decision D6: the sign alone, with no dead band; and each symbol's
code is that of the KEY register value that stores it. -/
def Obligations.SymbolIsTheSign : Prop :=
  (∀ v : Int, (symbolOf v = .positive ↔ 0 < v) ∧ (symbolOf v = .negative ↔ v < 0) ∧ (symbolOf v = .neutral ↔ v = 0)) ∧
  (∀ raw : RawValue, symbolOfRaw raw = symbolOf raw.toInt) ∧
  (∀ sym, keyCode (keyOfSymbol sym) = symbolCode sym) ∧
  symbolCode .neutral = 0#2 ∧ symbolCode .positive = 1#2 ∧ symbolCode .negative = 2#2

/-- R151 and R152 (the last derived by the spec; the codes are the spec's general knowledge, D4): the key map, one
to one on each axis, so that a sample's key is the asserted key exactly when the codes agree. -/
def Obligations.KeyMapIsOneToOne : Prop :=
  Config.keyMap .axis2 .positive = some 0x64#8 ∧ Config.keyMap .axis2 .negative = some 0x61#8 ∧
  Config.keyMap .axis3 .positive = some 0x77#8 ∧ Config.keyMap .axis3 .negative = some 0x73#8 ∧
  (∀ a, Config.keyMap a .neutral = none) ∧
  (∀ a x y, Config.keyMap a x = Config.keyMap a y → x = y) ∧
  ∀ a sym k, k ≠ .illegal → (Config.keyMap a sym = assertedKey a k ↔ symbolCode sym = keyCode k)

/-- R65, which the spec marks as its own decisions D3 and D10: the fields of every command word; two commands never
share a word. -/
def Obligations.CommandWordLayout : Prop :=
  (∀ dx dy, (commandWord (.move dx dy)).extractLsb' 32 2 = 0#2 ∧
    (commandWord (.move dx dy)).extractLsb' 0 16 = dx ∧ (commandWord (.move dx dy)).extractLsb' 16 16 = dy) ∧
  (∀ k, (commandWord (.keyDown k)).extractLsb' 32 2 = 1#2 ∧ (commandWord (.keyDown k)).extractLsb' 0 8 = k ∧
    (commandWord (.keyDown k)).extractLsb' 8 24 = 0#24) ∧
  (∀ k, (commandWord (.keyUp k)).extractLsb' 32 2 = 2#2 ∧ (commandWord (.keyUp k)).extractLsb' 0 8 = k ∧
    (commandWord (.keyUp k)).extractLsb' 8 24 = 0#24) ∧
  commandWord (.endSession .closed) = 0x300000000#34 ∧ commandWord (.endSession .error) = 0x300000001#34 ∧
  ∀ c c', commandWord c = commandWord c' → c = c'

/-- R67 and R73 (derived by the spec): in each state exactly one event row of the opcode table matches every word,
and it names the operation the decoder reads. -/
def Obligations.EventTableSelectsExactlyOne : Prop :=
  ∀ sess phase ev,
    (eventTable.filter (·.selects sess phase ev)).map (·.mnemonic) = [mnemonicOf (decodeEvent sess phase ev)]

/-- R68: a completed frame selects exactly one frame row, by its AXIS field alone: 0 MOVEX, 1 MOVEY, 2 KEYH, 3 KEYV,
every other id DROP. -/
def Obligations.FrameTableSelectsExactlyOne : Prop :=
  ∀ w, frameSync w = 0xFF#8 →
    ∃ i, decodeFrame w = .ok i ∧
      (frameTable.filter (·.selects w)).map (·.mnemonic) = [mnemonicOf i] ∧
      mnemonicOf i = (match (frameAxis w).toNat with
        | 0 => "MOVEX" | 1 => "MOVEY" | 2 => "KEYH" | 3 => "KEYV" | _ => "DROP")

/-- Some words of the spec's vectors and what they stand for (95_test_vectors.md). -/
def Obligations.VectorWordsDecode : Prop :=
  decodeEvent .active .scan 0x0FF#11 = .sync ∧ decodeEvent .active .scan 0x0FE#11 = .skip 0xFE#8 ∧
  decodeEvent .active .pay0 0x0FF#11 = .cap0 0xFF#8 ∧ decodeEvent .active .pay2 0x15A#11 = .trunc 0x5A#8 ∧
  decodeEvent .active .pay1 0x307#11 = .errorSession 0x07#8 ∧ decodeEvent .closed .scan 0x400#11 = .openSession 0x00#8 ∧
  decodeEvent .active .scan 0x7FF#11 = .refusedKind67 1#1 0xFF#8 ∧
  decodeFrame 0xFED400FF#32 = .ok (.movex 0xFED4#16) ∧ decodeFrame 0xFFFB01FF#32 = .ok (.movey 0xFFFB#16) ∧
  decodeFrame 0xFFF602FF#32 = .ok (.keyh 0xFFF6#16) ∧ decodeFrame 0x0005FFFF#32 = .ok (.drop 0xFF#8 0x0005#16)

/-- The decoder reads back every well-formed operation from its encoding, in every state that admits it (R67, R68;
the byte layout is log entry 9). -/
def Obligations.DecodeOfEncode : Prop :=
  ∀ i sess phase, i.wellFormed = true → i.admittedIn sess phase = true →
    decodeBytes sess phase (encode i) = .ok i

/-- Every byte sequence the decoder accepts is the encoding of the well-formed operation it reads, and an event word
is read as an operation that the state admits (log entry 9). -/
def Obligations.EncodeOfDecode : Prop :=
  ∀ sess phase bytes i, decodeBytes sess phase bytes = .ok i →
    encode i = bytes ∧ i.wellFormed = true ∧ (bytes.length = 2 → i.admittedIn sess phase = true)

/-- R64, which the spec marks as its own decision D2: the DATA of every kind but BYTE is ignored. -/
def Obligations.DataOfOtherKindsIsIgnored : Prop :=
  ∀ (s : State) (ev ev' : EventWord) (rest : List EventWord), kindOf ev = kindOf ev' → kindOf ev ≠ 0#3 →
    step { s with input := ev :: rest } = step { s with input := ev' :: rest }

/-! ### The block as a whole -/

/-- R12: `emit` appends; the commands of one step keep the order in which they are emitted; no step removes or
reorders a command. -/
def Obligations.OutOnlyGrowsInOrder : Prop :=
  (∀ c s, emit c s = { s with out := s.out ++ [c] }) ∧
  (∀ c cs s, emitAll (c :: cs) s = emitAll cs (emit c s)) ∧
  ∀ s t, step s = .next t → ∃ cs, t.out = s.out ++ cs ∧ cs.length ≤ 3

/-- R3, R29 and R36: the commands already emitted are never read back; whatever OUT holds before a step, the step
appends the same commands and leaves every register the same. -/
def Obligations.OutIsNeverReadBack : Prop :=
  ∀ (s t : State) (earlier : List Command), step s = .next t →
    ∃ cs, t.out = s.out ++ cs ∧ step { s with out := earlier } = .next { t with out := earlier ++ cs }

/-- R220's last sentence, which the spec derives: with no session open, an event other than OPEN is refused whatever
the registers hold, and OPEN leaves the same state whatever they held. -/
def Obligations.ClosedRegistersAreUnobservable : Prop :=
  ∀ (s : State) (ev : EventWord) (rest : List EventWord), s.sess = .closed → s.input = ev :: rest →
    (kindOf ev ≠ 4#3 → ∃ t, step s = .next t ∧ t.refused = true) ∧
    (kindOf ev = 4#3 → ∀ phase buf0 buf1 key2 key3,
      step { s with phase := phase, buf0 := buf0, buf1 := buf1, key2 := key2, key3 := key3 } = step s)

/-- R30, which the spec derives: PHASE only advances SCAN, PAY0, PAY1, PAY2 and returns to SCAN. -/
def Obligations.PhaseOnlyAdvancesOrReturns : Prop :=
  ∀ s t, step s = .next t →
    t.phase = s.phase ∨ t.phase = .scan ∨ (s.phase = .scan ∧ t.phase = .pay0) ∨
    (s.phase = .pay0 ∧ t.phase = .pay1) ∨ (s.phase = .pay1 ∧ t.phase = .pay2)

/-- R109 and R110, which the spec derives: a MOVE or a KEY_DOWN comes only from a BYTE taken in PAY2 of an open
session, the last byte of a complete frame; so TIMEOUT, CLOSE and ERROR never emit a partial frame. -/
def Obligations.OnlyCompleteFramesAct : Prop :=
  ∀ s t cs, step s = .next t → t.out = s.out ++ cs →
    ∀ c ∈ cs, (∃ dx dy, c = .move dx dy) ∨ (∃ k, c = .keyDown k) →
      s.sess = .active ∧ s.phase = .pay2 ∧ ∃ ev rest, s.input = ev :: rest ∧ kindOf ev = 0#3

/-- R66, which the spec marks as its own decision D4: no key code but 'a', 'd', 's' and 'w' is ever emitted. -/
def Obligations.OnlyFourKeyCodesEmitted : Prop :=
  ∀ s t cs, step s = .next t → t.out = s.out ++ cs →
    ∀ k, Command.keyDown k ∈ cs ∨ Command.keyUp k ∈ cs → k ∈ [0x61#8, 0x64#8, 0x73#8, 0x77#8]

/-- R108, which the spec derives: after every complete frame and every truncation the decoder is in its
session-start state. -/
def Obligations.DecoderRestarts : Prop :=
  ∀ s t ev rest, RegistersFit s → s.sess = .active → s.input = ev :: rest →
    (s.phase = .pay2 ∧ kindOf ev = 0#3) ∨ (s.phase ≠ .scan ∧ kindOf ev = 1#3) →
    step s = .next t → t.sess = .active ∧ t.phase = .scan ∧ t.buf0 = none ∧ t.buf1 = none

/-- R122, which the spec derives: from SCAN, the four bytes that encode an axis id and a value run exactly that
axis's operation with that value, in four steps, and leave the rest of the stream. -/
def Obligations.FourBytesRunOneFrame : Prop :=
  ∀ (s : State) (axis : Byte) (v : Int) (rest : List EventWord),
    RegistersFit s → s.sess = .active → s.phase = .scan → -32768 ≤ v → v ≤ 32767 →
    s.input = (encodeFrameBytes axis v).map (eventWord 0#3) ++ rest →
    sext16 (BitVec.ofInt 16 v) = v ∧
    ∃ i s1 s2 s3 t, decodeBytes .active .pay2 (encodeFrameBytes axis v) = .ok i ∧
      frameAxis (frameWord axis (BitVec.ofInt 16 v)) = axis ∧ encodeWord i = .frame (frameWord axis (BitVec.ofInt 16 v)) ∧
      step s = .next s1 ∧ step s1 = .next s2 ∧ step s2 = .next s3 ∧ step s3 = .next t ∧
      exec i { s with input := rest } = .next t

/-- R111 and R226: two sync bytes in a row make the second one an axis id of 255; that frame is dropped, and the
three bytes after the first sync byte are consumed with no other effect. -/
def Obligations.DoubleSyncDropsFrame : Prop :=
  ∀ s b1 b2 rest, RegistersFit s → s.sess = .active → s.phase = .scan →
    s.input = 0x0FF#11 :: 0x0FF#11 :: eventWord 0#3 b1 :: eventWord 0#3 b2 :: rest →
    ∃ s1 s2 s3, step s = .next s1 ∧ step s1 = .next s2 ∧ step s2 = .next s3 ∧
      step s3 = .next { s with input := rest }

/-- R35, which the spec derives: every step keeps the register invariants, and from a state that meets them no step
faults. -/
def Obligations.StepKeepsRegistersFit : Prop :=
  ∀ s t, RegistersFit s → step s = .next t → RegistersFit t ∧ t.fault = s.fault

/-- R152 and R155, which the spec derives: every step keeps the agreement between the key commands in OUT and the
KEY registers. -/
def Obligations.StepKeepsKeyHistory : Prop :=
  ∀ s t, RegistersFit s → HistoryFits s → step s = .next t → HistoryFits t

/-- R173, the spec's own decision D10: every step keeps END the last command while no session is open. -/
def Obligations.StepKeepsEndLast : Prop := ∀ s t, EndIsLast s → step s = .next t → EndIsLast t

/-- R35, R155, R173 (derived or decided by the spec): in every state of every run, from power-on and under any
event sequence, the registers, the key history and the ENDs fit, and no fault has happened. R35 speaks only of runs
without REFUSED or FAULT set; that the statement also covers runs with refused events rests on the block going on
after a mark as if it were clear (log entry 5, DEDUCED) and on a refused event taking a next state (log entry 3,
DEDUCED). -/
def Obligations.EveryRunIsSafe : Prop :=
  ∀ s, Reachable s → RegistersFit s ∧ HistoryFits s ∧ EndIsLast s ∧ s.fault = false

/-- R156, which the spec derives: in every run, between two KEY_DOWNs of one axis stands a KEY_UP of that axis. -/
def Obligations.PressesAreSeparatedByReleases : Prop :=
  ∀ s, Reachable s → ∀ a before mid after c c', s.out = before ++ c :: (mid ++ c' :: after) →
    pressesOn a c = true → pressesOn a c' = true → ∃ u ∈ mid, releasesOn a u = true

/-- R178 and R221 (a decision and an inference of the spec): a complete run leaves no key held, and its last
command, if it has any, is an END. -/
def Obligations.CompleteRunHoldsNoKey : Prop :=
  ∀ s, Reachable s → Complete s →
    heldAfter .axis2 s.out = some none ∧ heldAfter .axis3 s.out = some none ∧
    (s.out = [] ∨ ∃ r, s.out.getLast? = some (.endSession r))
end

