-- ==== Sys2Proof/Laws/Codec.lean ====
section
/-! SUPPORT. The fields of the words as numbers (R8): packing and unpacking cancel. -/

namespace Sys2Proof

/-- `a ++ b` is `a * 2^w + b` (R8). -/
theorem toNat_append_add {v w : Nat} (a : BitVec v) (b : BitVec w) :
    (a ++ b).toNat = a.toNat * 2 ^ w + b.toNat := by
  rw [BitVec.toNat_append, ← Nat.shiftLeft_add_eq_or_of_lt b.isLt, Nat.shiftLeft_eq]

theorem eventWord_toNat (k : BitVec 3) (d : Byte) : (eventWord k d).toNat = k.toNat * 256 + d.toNat :=
  toNat_append_add k d

theorem frameWord_toNat (a : Byte) (r : RawValue) :
    (frameWord a r).toNat = r.toNat * 65536 + a.toNat * 256 + 255 := by
  have h : (frameWord a r).toNat = (r ++ a).toNat * 2 ^ 8 + Config.sync.toNat := toNat_append_add (r ++ a) Config.sync
  rw [h, toNat_append_add]
  simp [Config.sync]
  omega

theorem packFrame_toNat (vhi vlo axis : Byte) :
    (packFrame vhi vlo axis).toNat = vhi.toNat * 16777216 + vlo.toNat * 65536 + axis.toNat * 256 + 255 := by
  have h : (packFrame vhi vlo axis).toNat = (vhi ++ vlo ++ axis).toNat * 2 ^ 8 + Config.sync.toNat :=
    toNat_append_add (vhi ++ vlo ++ axis) Config.sync
  rw [h, toNat_append_add, toNat_append_add]
  simp [Config.sync]
  omega

/-- A field `v[hi:lo]` as a number (R8). -/
theorem extract_toNat {n : Nat} (v : BitVec n) (lo w : Nat) :
    (v.extractLsb' lo w).toNat = v.toNat / 2 ^ lo % 2 ^ w := by
  rw [BitVec.extractLsb'_toNat, Nat.shiftRight_eq_div_pow]

theorem kindOf_toNat (ev : EventWord) : (kindOf ev).toNat = ev.toNat / 256 := by
  have := ev.isLt
  rw [kindOf, extract_toNat]
  omega

theorem dataOf_toNat (ev : EventWord) : (dataOf ev).toNat = ev.toNat % 256 := by
  rw [dataOf, extract_toNat]
  omega

theorem frameSync_toNat (w : FrameWord) : (frameSync w).toNat = w.toNat % 256 := by
  rw [frameSync, extract_toNat]
  omega

theorem frameAxis_toNat (w : FrameWord) : (frameAxis w).toNat = w.toNat / 256 % 256 := by
  rw [frameAxis, extract_toNat]
  omega

theorem frameRaw_toNat (w : FrameWord) : (frameRaw w).toNat = w.toNat / 65536 := by
  have := w.isLt
  rw [frameRaw, extract_toNat]
  omega

@[simp] theorem kindOf_eventWord (k : BitVec 3) (d : Byte) : kindOf (eventWord k d) = k := by
  apply BitVec.eq_of_toNat_eq
  have := d.isLt
  rw [kindOf_toNat, eventWord_toNat]
  omega

@[simp] theorem dataOf_eventWord (k : BitVec 3) (d : Byte) : dataOf (eventWord k d) = d := by
  apply BitVec.eq_of_toNat_eq
  have := d.isLt
  rw [dataOf_toNat, eventWord_toNat]
  omega

/-- An event word is its two fields (R63). -/
theorem eventWord_fields (ev : EventWord) : eventWord (kindOf ev) (dataOf ev) = ev := by
  apply BitVec.eq_of_toNat_eq
  rw [eventWord_toNat, kindOf_toNat, dataOf_toNat]
  omega

@[simp] theorem frameSync_frameWord (a : Byte) (r : RawValue) : frameSync (frameWord a r) = Config.sync := by
  apply BitVec.eq_of_toNat_eq
  rw [frameSync_toNat, frameWord_toNat]
  simp [Config.sync]
  omega

@[simp] theorem frameAxis_frameWord (a : Byte) (r : RawValue) : frameAxis (frameWord a r) = a := by
  apply BitVec.eq_of_toNat_eq
  have := a.isLt
  rw [frameAxis_toNat, frameWord_toNat]
  omega

@[simp] theorem frameRaw_frameWord (a : Byte) (r : RawValue) : frameRaw (frameWord a r) = r := by
  apply BitVec.eq_of_toNat_eq
  have := a.isLt
  rw [frameRaw_toNat, frameWord_toNat]
  omega

/-- A frame built from its payload bytes has the raw value `p2 ++ p1` (R42, R61). -/
theorem packFrame_eq_frameWord (vhi vlo axis : Byte) : packFrame vhi vlo axis = frameWord axis (vhi ++ vlo) := by
  apply BitVec.eq_of_toNat_eq
  rw [packFrame_toNat, frameWord_toNat, toNat_append_add]
  omega

@[simp] theorem frameSync_packFrame (h l a : Byte) : frameSync (packFrame h l a) = Config.sync := by
  rw [packFrame_eq_frameWord, frameSync_frameWord]

@[simp] theorem frameAxis_packFrame (h l a : Byte) : frameAxis (packFrame h l a) = a := by
  rw [packFrame_eq_frameWord, frameAxis_frameWord]

@[simp] theorem frameRaw_packFrame (h l a : Byte) : frameRaw (packFrame h l a) = h ++ l := by
  rw [packFrame_eq_frameWord, frameRaw_frameWord]

/-- A frame word that starts with the sync byte is its axis id and raw value (R61). -/
theorem frameWord_fields (w : FrameWord) (h : frameSync w = Config.sync) : frameWord (frameAxis w) (frameRaw w) = w := by
  apply BitVec.eq_of_toNat_eq
  have := frameSync_toNat w
  rw [h] at this
  simp [Config.sync] at this
  rw [frameWord_toNat, frameAxis_toNat, frameRaw_toNat]
  omega

/-- The two's-complement reading of R9 is the library's. -/
theorem sext16_eq_toInt (raw : RawValue) : Machine.sext16 raw = raw.toInt := by
  unfold Machine.sext16
  rw [BitVec.toInt_eq_msb_cond, BitVec.msb_eq_getLsbD_last]
  norm_num

end Sys2Proof
end

