-- ==== Sys2Proof/Laws/State.lean ====
section
/-! SUPPORT. What each named update of the state leaves in each field. -/

namespace Sys2Proof.Machine

@[simp] theorem emit_sess (c : Command) (s : State) : (emit c s).sess = s.sess := rfl
@[simp] theorem emit_phase (c : Command) (s : State) : (emit c s).phase = s.phase := rfl
@[simp] theorem emit_buf0 (c : Command) (s : State) : (emit c s).buf0 = s.buf0 := rfl
@[simp] theorem emit_buf1 (c : Command) (s : State) : (emit c s).buf1 = s.buf1 := rfl
@[simp] theorem emit_key2 (c : Command) (s : State) : (emit c s).key2 = s.key2 := rfl
@[simp] theorem emit_key3 (c : Command) (s : State) : (emit c s).key3 = s.key3 := rfl
@[simp] theorem emit_out (c : Command) (s : State) : (emit c s).out = s.out ++ [c] := rfl
@[simp] theorem emit_refused (c : Command) (s : State) : (emit c s).refused = s.refused := rfl
@[simp] theorem emit_fault (c : Command) (s : State) : (emit c s).fault = s.fault := rfl
@[simp] theorem emit_input (c : Command) (s : State) : (emit c s).input = s.input := rfl

@[simp] theorem emitAll_sess (cs : List Command) (s : State) : (emitAll cs s).sess = s.sess := rfl
@[simp] theorem emitAll_phase (cs : List Command) (s : State) : (emitAll cs s).phase = s.phase := rfl
@[simp] theorem emitAll_buf0 (cs : List Command) (s : State) : (emitAll cs s).buf0 = s.buf0 := rfl
@[simp] theorem emitAll_buf1 (cs : List Command) (s : State) : (emitAll cs s).buf1 = s.buf1 := rfl
@[simp] theorem emitAll_key2 (cs : List Command) (s : State) : (emitAll cs s).key2 = s.key2 := rfl
@[simp] theorem emitAll_key3 (cs : List Command) (s : State) : (emitAll cs s).key3 = s.key3 := rfl
@[simp] theorem emitAll_out (cs : List Command) (s : State) : (emitAll cs s).out = s.out ++ cs := rfl
@[simp] theorem emitAll_refused (cs : List Command) (s : State) : (emitAll cs s).refused = s.refused := rfl
@[simp] theorem emitAll_fault (cs : List Command) (s : State) : (emitAll cs s).fault = s.fault := rfl
@[simp] theorem emitAll_input (cs : List Command) (s : State) : (emitAll cs s).input = s.input := rfl

@[simp] theorem refuse_sess (r : Refusal) (s : State) : (refuse r s).sess = s.sess := rfl
@[simp] theorem refuse_phase (r : Refusal) (s : State) : (refuse r s).phase = s.phase := rfl
@[simp] theorem refuse_buf0 (r : Refusal) (s : State) : (refuse r s).buf0 = s.buf0 := rfl
@[simp] theorem refuse_buf1 (r : Refusal) (s : State) : (refuse r s).buf1 = s.buf1 := rfl
@[simp] theorem refuse_key2 (r : Refusal) (s : State) : (refuse r s).key2 = s.key2 := rfl
@[simp] theorem refuse_key3 (r : Refusal) (s : State) : (refuse r s).key3 = s.key3 := rfl
@[simp] theorem refuse_out (r : Refusal) (s : State) : (refuse r s).out = s.out := rfl
@[simp] theorem refuse_refused (r : Refusal) (s : State) : (refuse r s).refused = true := rfl
@[simp] theorem refuse_fault (r : Refusal) (s : State) : (refuse r s).fault = s.fault := rfl
@[simp] theorem refuse_input (r : Refusal) (s : State) : (refuse r s).input = s.input := rfl

@[simp] theorem markFault_sess (f : Fault) (s : State) : (markFault f s).sess = s.sess := rfl
@[simp] theorem markFault_phase (f : Fault) (s : State) : (markFault f s).phase = s.phase := rfl
@[simp] theorem markFault_buf0 (f : Fault) (s : State) : (markFault f s).buf0 = s.buf0 := rfl
@[simp] theorem markFault_buf1 (f : Fault) (s : State) : (markFault f s).buf1 = s.buf1 := rfl
@[simp] theorem markFault_key2 (f : Fault) (s : State) : (markFault f s).key2 = s.key2 := rfl
@[simp] theorem markFault_key3 (f : Fault) (s : State) : (markFault f s).key3 = s.key3 := rfl
@[simp] theorem markFault_out (f : Fault) (s : State) : (markFault f s).out = s.out := rfl
@[simp] theorem markFault_refused (f : Fault) (s : State) : (markFault f s).refused = s.refused := rfl
@[simp] theorem markFault_fault (f : Fault) (s : State) : (markFault f s).fault = true := rfl
@[simp] theorem markFault_input (f : Fault) (s : State) : (markFault f s).input = s.input := rfl

@[simp] theorem rescan_sess (s : State) : (rescan s).sess = s.sess := rfl
@[simp] theorem rescan_phase (s : State) : (rescan s).phase = .scan := rfl
@[simp] theorem rescan_buf0 (s : State) : (rescan s).buf0 = none := rfl
@[simp] theorem rescan_buf1 (s : State) : (rescan s).buf1 = none := rfl
@[simp] theorem rescan_key2 (s : State) : (rescan s).key2 = s.key2 := rfl
@[simp] theorem rescan_key3 (s : State) : (rescan s).key3 = s.key3 := rfl
@[simp] theorem rescan_out (s : State) : (rescan s).out = s.out := rfl
@[simp] theorem rescan_refused (s : State) : (rescan s).refused = s.refused := rfl
@[simp] theorem rescan_fault (s : State) : (rescan s).fault = s.fault := rfl
@[simp] theorem rescan_input (s : State) : (rescan s).input = s.input := rfl

@[simp] theorem setKey_axis2_sess (k : KeyReg) (s : State) : (setKey .axis2 k s).sess = s.sess := rfl
@[simp] theorem setKey_axis2_phase (k : KeyReg) (s : State) : (setKey .axis2 k s).phase = s.phase := rfl
@[simp] theorem setKey_axis2_buf0 (k : KeyReg) (s : State) : (setKey .axis2 k s).buf0 = s.buf0 := rfl
@[simp] theorem setKey_axis2_buf1 (k : KeyReg) (s : State) : (setKey .axis2 k s).buf1 = s.buf1 := rfl
@[simp] theorem setKey_axis2_key2 (k : KeyReg) (s : State) : (setKey .axis2 k s).key2 = k := rfl
@[simp] theorem setKey_axis2_key3 (k : KeyReg) (s : State) : (setKey .axis2 k s).key3 = s.key3 := rfl
@[simp] theorem setKey_axis2_out (k : KeyReg) (s : State) : (setKey .axis2 k s).out = s.out := rfl
@[simp] theorem setKey_axis2_refused (k : KeyReg) (s : State) : (setKey .axis2 k s).refused = s.refused := rfl
@[simp] theorem setKey_axis2_fault (k : KeyReg) (s : State) : (setKey .axis2 k s).fault = s.fault := rfl
@[simp] theorem setKey_axis2_input (k : KeyReg) (s : State) : (setKey .axis2 k s).input = s.input := rfl

@[simp] theorem setKey_axis3_sess (k : KeyReg) (s : State) : (setKey .axis3 k s).sess = s.sess := rfl
@[simp] theorem setKey_axis3_phase (k : KeyReg) (s : State) : (setKey .axis3 k s).phase = s.phase := rfl
@[simp] theorem setKey_axis3_buf0 (k : KeyReg) (s : State) : (setKey .axis3 k s).buf0 = s.buf0 := rfl
@[simp] theorem setKey_axis3_buf1 (k : KeyReg) (s : State) : (setKey .axis3 k s).buf1 = s.buf1 := rfl
@[simp] theorem setKey_axis3_key2 (k : KeyReg) (s : State) : (setKey .axis3 k s).key2 = s.key2 := rfl
@[simp] theorem setKey_axis3_key3 (k : KeyReg) (s : State) : (setKey .axis3 k s).key3 = k := rfl
@[simp] theorem setKey_axis3_out (k : KeyReg) (s : State) : (setKey .axis3 k s).out = s.out := rfl
@[simp] theorem setKey_axis3_refused (k : KeyReg) (s : State) : (setKey .axis3 k s).refused = s.refused := rfl
@[simp] theorem setKey_axis3_fault (k : KeyReg) (s : State) : (setKey .axis3 k s).fault = s.fault := rfl
@[simp] theorem setKey_axis3_input (k : KeyReg) (s : State) : (setKey .axis3 k s).input = s.input := rfl

@[simp] theorem keyOf_axis2 (s : State) : keyOf .axis2 s = s.key2 := rfl
@[simp] theorem keyOf_axis3 (s : State) : keyOf .axis3 s = s.key3 := rfl

/-- Writing one KEY register leaves the other (R26, R154). -/
theorem keyOf_setKey (a b : DiscreteAxis) (k : KeyReg) (s : State) :
    keyOf a (setKey b k s) = if a = b then k else keyOf a s := by
  cases a <;> cases b <;> rfl

end Sys2Proof.Machine
end

