-- ==== Sys2Proof/Laws/Ops.lean ====
section
/-! SUPPORT. For each shared operation, once, everything it can do. -/

namespace Sys2Proof.Machine

/-! ### The symbols -/

@[simp] theorem symbolOfKey_keyOfSymbol (sym : Symbol) : symbolOfKey (keyOfSymbol sym) = some sym := by
  cases sym <;> rfl

theorem symbolOfKey_eq_some {k : KeyReg} {sym : Symbol} : symbolOfKey k = some sym ↔ k = keyOfSymbol sym := by
  cases k <;> cases sym <;> decide

theorem symbolOfKey_eq_none {k : KeyReg} : symbolOfKey k = none ↔ k = .illegal := by
  cases k <;> decide

theorem keyOfSymbol_injective {a b : Symbol} : keyOfSymbol a = keyOfSymbol b ↔ a = b := by
  cases a <;> cases b <;> decide

theorem keyOfSymbol_ne_illegal (sym : Symbol) : keyOfSymbol sym ≠ .illegal := by
  cases sym <;> decide

/-! ### Atomic steps (R11, R159) -/

theorem atomically_ok {s t : State} {rule : State → Except Fault State} (h : rule s = .ok t) :
    atomically s rule = t := by
  simp [atomically, h]

theorem atomically_error {s : State} {f : Fault} {rule : State → Except Fault State} (h : rule s = .error f) :
    atomically s rule = markFault f s := by
  simp [atomically, h]

/-- An atomic step does all its rule does, or sets the FAULT mark and does nothing else. -/
theorem atomically_cases (s : State) (rule : State → Except Fault State) :
    (∃ t, rule s = .ok t ∧ atomically s rule = t) ∨
    (∃ f, rule s = .error f ∧ atomically s rule = markFault f s) := by
  cases h : rule s with
  | ok t => exact .inl ⟨t, rfl, atomically_ok h⟩
  | error f => exact .inr ⟨f, rfl, atomically_error h⟩

/-! ### Reading a KEY register -/

theorem readKey_ok_iff {a : DiscreteAxis} {s : State} {sym : Symbol} :
    readKey a s = .ok sym ↔ keyOf a s = keyOfSymbol sym := by
  unfold readKey
  rw [← symbolOfKey_eq_some]
  cases symbolOfKey (keyOf a s) <;> simp

theorem readKey_error_iff {a : DiscreteAxis} {s : State} {f : Fault} :
    readKey a s = .error f ↔ keyOf a s = .illegal ∧ f = .keyStateIllegal := by
  unfold readKey
  rw [← symbolOfKey_eq_none]
  cases symbolOfKey (keyOf a s) <;> simp [eq_comm]

/-! ### KEYSTEP (R153) -/

/-- What KEYSTEP answers: nothing for the symbol already asserted, else the release, the press and the new code. -/
theorem keyStep_ok {a : DiscreteAxis} {raw : RawValue} {s t : State} (h : keyStep a raw s = .ok t) :
    ∃ old, keyOf a s = keyOfSymbol old ∧
      ((symbolOfRaw raw = old ∧ t = s) ∨
       (symbolOfRaw raw ≠ old ∧
        t = setKey a (keyOfSymbol (symbolOfRaw raw)) (emitAll (keyUpOf a old ++ keyDownOf a (symbolOfRaw raw)) s))) := by
  unfold keyStep at h
  split at h
  · cases h
  · rename_i old hold
    refine ⟨old, readKey_ok_iff.mp hold, ?_⟩
    split at h
    · rename_i heq
      exact .inl ⟨heq, by injection h with h; exact h.symm⟩
    · rename_i hne
      exact .inr ⟨hne, by injection h with h; exact h.symm⟩

/-- KEYSTEP faults exactly on the illegal code (R159). -/
theorem keyStep_error {a : DiscreteAxis} {raw : RawValue} {s : State} {f : Fault} :
    keyStep a raw s = .error f ↔ keyOf a s = .illegal ∧ f = .keyStateIllegal := by
  rw [← readKey_error_iff]
  unfold keyStep
  cases readKey a s with
  | error g => simp
  | ok old => simp; split <;> simp

/-! ### RELEASE_ALL and teardown (R158, R171, R172) -/

/-- The short cut for one or no held key does not change the order of the releases. -/
theorem teardownReleases_eq (up2 up3 : List Command) :
    teardownReleases up2 up3 = arrangeReleases Config.teardownOrder up2 up3 := by
  unfold teardownReleases
  split
  · subst_vars; cases Config.teardownOrder <;> simp [arrangeReleases]
  · split
    · subst_vars; cases Config.teardownOrder <;> simp [arrangeReleases]
    · rfl

/-- What RELEASE_ALL answers. -/
theorem releaseAll_ok {s t : State} (h : releaseAll s = .ok t) :
    ∃ old2 old3, s.key2 = keyOfSymbol old2 ∧ s.key3 = keyOfSymbol old3 ∧
      t = setKey .axis3 .unasserted (setKey .axis2 .unasserted
        (emitAll (arrangeReleases Config.teardownOrder (keyUpOf .axis2 old2) (keyUpOf .axis3 old3)) s)) := by
  unfold releaseAll at h
  split at h
  · rename_i old2 old3 h2 h3
    injection h with h
    rw [teardownReleases_eq] at h
    exact ⟨old2, old3, readKey_ok_iff.mp h2, readKey_ok_iff.mp h3, h.symm⟩
  · cases h
  · cases h

/-- RELEASE_ALL faults exactly when a KEY register holds the illegal code (R159). -/
theorem releaseAll_error {s : State} {f : Fault} :
    releaseAll s = .error f ↔ (s.key2 = .illegal ∨ s.key3 = .illegal) ∧ f = .keyStateIllegal := by
  unfold releaseAll readKey
  cases h2 : s.key2 <;> cases h3 : s.key3 <;> simp [h2, h3, symbolOfKey, eq_comm]

/-- What a teardown answers. -/
theorem teardown_ok {r : EndReason} {s t : State} (h : teardown r s = .ok t) :
    ∃ old2 old3, s.key2 = keyOfSymbol old2 ∧ s.key3 = keyOfSymbol old3 ∧
      t = { s with
        sess := .closed, phase := .scan, buf0 := none, buf1 := none, key2 := .unasserted, key3 := .unasserted,
        out := s.out ++
          (arrangeReleases Config.teardownOrder (keyUpOf .axis2 old2) (keyUpOf .axis3 old3) ++ [.endSession r]) } := by
  unfold teardown at h
  split at h
  · cases h
  · rename_i u hu
    obtain ⟨old2, old3, h2, h3, rfl⟩ := releaseAll_ok hu
    injection h with h
    exact ⟨old2, old3, h2, h3, by rw [← h]; simp [emit, setKey, emitAll, rescan]⟩

/-- A teardown faults exactly when a KEY register holds the illegal code (R159). -/
theorem teardown_error {r : EndReason} {s : State} {f : Fault} :
    teardown r s = .error f ↔ (s.key2 = .illegal ∨ s.key3 = .illegal) ∧ f = .keyStateIllegal := by
  have h := releaseAll_error (s := rescan s) (f := f)
  simp only [rescan_key2, rescan_key3] at h
  rw [← h]
  unfold teardown
  cases releaseAll (rescan s) <;> simp

/-! ### DISPATCH and CAP2 (R130, R105) -/

/-- DISPATCH by the AXIS field (R68). -/
theorem dispatch_eq (w : FrameWord) (s : State) :
    dispatch w s =
      if frameAxis w = Config.axisMoveX then .ok (emit (.move (frameRaw w) 0#16) s)
      else if frameAxis w = Config.axisMoveY then .ok (emit (.move 0#16 (frameRaw w)) s)
      else if frameAxis w = Config.axisKeyH then keyStep .axis2 (frameRaw w) s
      else if frameAxis w = Config.axisKeyV then keyStep .axis3 (frameRaw w) s
      else .ok s := rfl

/-- What DISPATCH answers: one MOVE, one KEYSTEP, or nothing. -/
theorem dispatch_ok {w : FrameWord} {s t : State} (h : dispatch w s = .ok t) :
    (frameAxis w = Config.axisMoveX ∧ t = emit (.move (frameRaw w) 0#16) s) ∨
    (frameAxis w = Config.axisMoveY ∧ t = emit (.move 0#16 (frameRaw w)) s) ∨
    (frameAxis w = Config.axisKeyH ∧ keyStep .axis2 (frameRaw w) s = .ok t) ∨
    (frameAxis w = Config.axisKeyV ∧ keyStep .axis3 (frameRaw w) s = .ok t) ∨
    (validAxis (frameAxis w) = false ∧ t = s) := by
  rw [dispatch_eq] at h
  by_cases h0 : frameAxis w = Config.axisMoveX
  · rw [if_pos h0] at h; injection h with h; exact .inl ⟨h0, h.symm⟩
  by_cases h1 : frameAxis w = Config.axisMoveY
  · rw [if_neg h0, if_pos h1] at h; injection h with h; exact .inr (.inl ⟨h1, h.symm⟩)
  by_cases h2 : frameAxis w = Config.axisKeyH
  · rw [if_neg h0, if_neg h1, if_pos h2] at h; exact .inr (.inr (.inl ⟨h2, h⟩))
  by_cases h3 : frameAxis w = Config.axisKeyV
  · rw [if_neg h0, if_neg h1, if_neg h2, if_pos h3] at h; exact .inr (.inr (.inr (.inl ⟨h3, h⟩)))
  rw [if_neg h0, if_neg h1, if_neg h2, if_neg h3] at h
  injection h with h
  exact .inr (.inr (.inr (.inr ⟨by simp [validAxis, h0, h1, h2, h3], h.symm⟩)))

/-- What CAP2's rule answers: the frame's DISPATCH, from the rescanned state. -/
theorem completeFrame_ok {b : Byte} {s t : State} (h : completeFrame b s = .ok t) :
    ∃ p0 p1, s.buf0 = some p0 ∧ s.buf1 = some p1 ∧ dispatch (packFrame b p1 p0) (rescan s) = .ok t := by
  unfold completeFrame at h
  split at h
  · rename_i p0 p1 h0 h1; exact ⟨p0, p1, h0, h1, h⟩
  · cases h

/-! ### The input port -/

theorem nextEvent_eq_none {s : State} : nextEvent s = none ↔ s.input = [] := by
  unfold nextEvent
  cases s.input <;> simp

theorem nextEvent_eq_some {s t : State} {ev : EventWord} :
    nextEvent s = some (ev, t) ↔ ∃ rest, s.input = ev :: rest ∧ t = { s with input := rest } := by
  unfold nextEvent
  cases s.input with
  | nil => simp
  | cons e rest =>
    constructor
    · intro h
      injection h with h
      injection h with h1 h2
      subst h1
      exact ⟨rest, rfl, h2.symm⟩
    · rintro ⟨r, h, rfl⟩
      injection h with h1 h2
      subst h1 h2
      rfl

end Sys2Proof.Machine
end

