-- ==== Sys2Proof/Laws/PerInstr.lean ====
section
/-! SUPPORT. Facts about every operation as a term, one lemma per constructor. -/

namespace Sys2Proof.Laws.EncodeLength

/-- An operation is encoded in the two bytes of an event word or the four bytes of a frame, and in four exactly
when its word is a frame word (R60, R63). -/
def Statement (i : Instr) : Prop :=
  (∃ ev, encodeWord i = .event ev ∧ (encode i).length = 2) ∨ (∃ w, encodeWord i = .frame w ∧ (encode i).length = 4)

theorem sync : Statement (.sync) := .inl ⟨_, rfl, rfl⟩
theorem skip (b : Byte) : Statement (.skip b) := .inl ⟨_, rfl, rfl⟩
theorem cap0 (b : Byte) : Statement (.cap0 b) := .inl ⟨_, rfl, rfl⟩
theorem cap1 (b : Byte) : Statement (.cap1 b) := .inl ⟨_, rfl, rfl⟩
theorem cap2 (b : Byte) : Statement (.cap2 b) := .inl ⟨_, rfl, rfl⟩
theorem idle (data : Byte) : Statement (.idle data) := .inl ⟨_, rfl, rfl⟩
theorem trunc (data : Byte) : Statement (.trunc data) := .inl ⟨_, rfl, rfl⟩
theorem closeSession (data : Byte) : Statement (.closeSession data) := .inl ⟨_, rfl, rfl⟩
theorem errorSession (data : Byte) : Statement (.errorSession data) := .inl ⟨_, rfl, rfl⟩
theorem openSession (data : Byte) : Statement (.openSession data) := .inl ⟨_, rfl, rfl⟩
theorem refusedOpen (data : Byte) : Statement (.refusedOpen data) := .inl ⟨_, rfl, rfl⟩
theorem refusedByte (data : Byte) : Statement (.refusedByte data) := .inl ⟨_, rfl, rfl⟩
theorem refusedTimeout (data : Byte) : Statement (.refusedTimeout data) := .inl ⟨_, rfl, rfl⟩
theorem refusedClose (data : Byte) : Statement (.refusedClose data) := .inl ⟨_, rfl, rfl⟩
theorem refusedError (data : Byte) : Statement (.refusedError data) := .inl ⟨_, rfl, rfl⟩
theorem refusedKind5 (data : Byte) : Statement (.refusedKind5 data) := .inl ⟨_, rfl, rfl⟩
theorem refusedKind67 (low : BitVec 1) (data : Byte) : Statement (.refusedKind67 low data) := .inl ⟨_, rfl, rfl⟩
theorem movex (raw : RawValue) : Statement (.movex raw) := .inr ⟨_, rfl, rfl⟩
theorem movey (raw : RawValue) : Statement (.movey raw) := .inr ⟨_, rfl, rfl⟩
theorem keyh (raw : RawValue) : Statement (.keyh raw) := .inr ⟨_, rfl, rfl⟩
theorem keyv (raw : RawValue) : Statement (.keyv raw) := .inr ⟨_, rfl, rfl⟩
theorem drop (axis : Byte) (raw : RawValue) : Statement (.drop axis raw) := .inr ⟨_, rfl, rfl⟩

end Sys2Proof.Laws.EncodeLength
end

