-- ==== Sys2Proof/Laws/Step.lean ====
section
/-! SUPPORT. Once, everything a step that takes an event can do. -/

namespace Sys2Proof.Machine

/-- The effects of the event `ev` on a state that has taken it off the port (R67, with the rules of its rows). -/
inductive Effect (s : State) (ev : EventWord) : State → Prop
  /-- SYNC (R101). -/
  | sync : s.sess = .active → s.phase = .scan → kindOf ev = 0#3 → dataOf ev = Config.sync →
      Effect s ev { s with phase := .pay0 }
  /-- SKIP (R102). -/
  | skip : s.sess = .active → s.phase = .scan → kindOf ev = 0#3 → dataOf ev ≠ Config.sync → Effect s ev s
  /-- CAP0 (R103). -/
  | cap0 : s.sess = .active → s.phase = .pay0 → kindOf ev = 0#3 →
      Effect s ev { s with buf0 := some (dataOf ev), phase := .pay1 }
  /-- CAP1 (R104). -/
  | cap1 : s.sess = .active → s.phase = .pay1 → kindOf ev = 0#3 →
      Effect s ev { s with buf1 := some (dataOf ev), phase := .pay2 }
  /-- CAP2, with its DISPATCH (R105). -/
  | cap2 (t : State) : s.sess = .active → s.phase = .pay2 → kindOf ev = 0#3 →
      completeFrame (dataOf ev) s = .ok t → Effect s ev t
  /-- CAP2 that faults (R105, R159). -/
  | cap2Fault (f : Fault) : s.sess = .active → s.phase = .pay2 → kindOf ev = 0#3 →
      completeFrame (dataOf ev) s = .error f → Effect s ev (markFault f s)
  /-- IDLE (R106). -/
  | idle : s.sess = .active → s.phase = .scan → kindOf ev = 1#3 → Effect s ev s
  /-- TRUNC (R107). -/
  | trunc : s.sess = .active → s.phase ≠ .scan → kindOf ev = 1#3 → Effect s ev (rescan s)
  /-- CLOSE and ERROR (R171, R172). -/
  | teardown (r : EndReason) (t : State) : s.sess = .active →
      kindOf ev = (match r with | .closed => 2#3 | .error => 3#3) →
      teardown r s = .ok t → Effect s ev t
  /-- CLOSE and ERROR that fault (R159). -/
  | teardownFault (r : EndReason) (f : Fault) : s.sess = .active →
      kindOf ev = (match r with | .closed => 2#3 | .error => 3#3) →
      teardown r s = .error f → Effect s ev (markFault f s)
  /-- OPEN (R170). -/
  | sessionOpen : s.sess = .closed → kindOf ev = 4#3 →
      Effect s ev { rescan s with sess := .active, key2 := .unasserted, key3 := .unasserted }
  /-- The refused events (R174, R175, R176). -/
  | refused (r : Refusal) :
      (s.sess = .closed ∧ kindOf ev ≠ 4#3 ∨ s.sess = .active ∧ kindOf ev = 4#3 ∨ 5 ≤ (kindOf ev).toNat) →
      Effect s ev (refuse r s)

/-- The kinds and their codes (R63). -/
theorem kind_cases (k : BitVec 3) :
    k = 0#3 ∨ k = 1#3 ∨ k = 2#3 ∨ k = 3#3 ∨ k = 4#3 ∨ k = 5#3 ∨ k = 6#3 ∨ k = 7#3 := by
  revert k; decide

/-- The operation an event selects has one of the effects, in every state. -/
theorem exec_decodeEvent_effect (s : State) (ev : EventWord) :
    ∃ t, exec (decodeEvent s.sess s.phase ev) s = .next t ∧ Effect s ev t := by
  have hcap2 : s.sess = .active → s.phase = .pay2 → kindOf ev = 0#3 →
      Effect s ev (atomically s (completeFrame (dataOf ev))) := by
    intro h1 h2 h3
    rcases atomically_cases s (completeFrame (dataOf ev)) with ⟨t, ht, he⟩ | ⟨f, hf, he⟩
    · exact he ▸ .cap2 t h1 h2 h3 ht
    · exact he ▸ .cap2Fault f h1 h2 h3 hf
  have htd : ∀ r, s.sess = .active → kindOf ev = (match r with | .closed => 2#3 | .error => 3#3) →
      Effect s ev (atomically s (Machine.teardown r)) := by
    intro r h1 h3
    rcases atomically_cases s (Machine.teardown r) with ⟨t, ht, he⟩ | ⟨f, hf, he⟩
    · exact he ▸ .teardown r t h1 h3 ht
    · exact he ▸ .teardownFault r f h1 h3 hf
  unfold decodeEvent
  rcases kind_cases (kindOf ev) with hk | hk | hk | hk | hk | hk | hk | hk
  · rw [hk, show kindOfField 0#3 = .byte from rfl]
    cases hs : s.sess with
    | closed => exact ⟨_, rfl, .refused _ (.inl ⟨hs, by rw [hk]; decide⟩)⟩
    | active =>
      cases hp : s.phase with
      | scan =>
        by_cases hd : dataOf ev = Config.sync
        · simp only [if_pos hd]; exact ⟨_, rfl, .sync hs hp hk hd⟩
        · simp only [if_neg hd]; exact ⟨_, rfl, .skip hs hp hk hd⟩
      | pay0 => exact ⟨_, rfl, .cap0 hs hp hk⟩
      | pay1 => exact ⟨_, rfl, .cap1 hs hp hk⟩
      | pay2 => exact ⟨_, rfl, hcap2 hs hp hk⟩
  · rw [hk, show kindOfField 1#3 = .timeout from rfl]
    cases hs : s.sess with
    | closed => exact ⟨_, rfl, .refused _ (.inl ⟨hs, by rw [hk]; decide⟩)⟩
    | active =>
      cases hp : s.phase with
      | scan => exact ⟨_, rfl, .idle hs hp hk⟩
      | pay0 => exact ⟨_, rfl, .trunc hs (by simp [hp]) hk⟩
      | pay1 => exact ⟨_, rfl, .trunc hs (by simp [hp]) hk⟩
      | pay2 => exact ⟨_, rfl, .trunc hs (by simp [hp]) hk⟩
  · rw [hk, show kindOfField 2#3 = .close from rfl]
    cases hs : s.sess with
    | closed => exact ⟨_, rfl, .refused _ (.inl ⟨hs, by rw [hk]; decide⟩)⟩
    | active => exact ⟨_, rfl, htd .closed hs hk⟩
  · rw [hk, show kindOfField 3#3 = .error from rfl]
    cases hs : s.sess with
    | closed => exact ⟨_, rfl, .refused _ (.inl ⟨hs, by rw [hk]; decide⟩)⟩
    | active => exact ⟨_, rfl, htd .error hs hk⟩
  · rw [hk, show kindOfField 4#3 = .sessionOpen from rfl]
    cases hs : s.sess with
    | closed => exact ⟨_, rfl, .sessionOpen hs hk⟩
    | active => exact ⟨_, rfl, .refused _ (.inr (.inl ⟨hs, hk⟩))⟩
  · rw [hk, show kindOfField 5#3 = .reserved5 from rfl]
    exact ⟨_, rfl, .refused _ (.inr (.inr (by rw [hk]; decide)))⟩
  · rw [hk, show kindOfField 6#3 = .reserved67 0#1 from rfl]
    exact ⟨_, rfl, .refused _ (.inr (.inr (by rw [hk]; decide)))⟩
  · rw [hk, show kindOfField 7#3 = .reserved67 1#1 from rfl]
    exact ⟨_, rfl, .refused _ (.inr (.inr (by rw [hk]; decide)))⟩

/-- A step waits with no event to take, or it takes the first event and has one of its effects. -/
theorem step_cases {s t : State} (h : step s = .next t) :
    (s.input = [] ∧ t = s) ∨ ∃ ev rest, s.input = ev :: rest ∧ Effect { s with input := rest } ev t := by
  unfold step at h
  split at h
  · rename_i hn
    injection h with h
    exact .inl ⟨nextEvent_eq_none.mp hn, h.symm⟩
  · rename_i ev u hu
    obtain ⟨rest, hin, rfl⟩ := nextEvent_eq_some.mp hu
    obtain ⟨t', ht', he⟩ := exec_decodeEvent_effect { s with input := rest } ev
    rw [ht'] at h
    injection h with h
    exact .inr ⟨ev, rest, hin, h ▸ he⟩

end Sys2Proof.Machine
end

