-- ==== Sys2Proof/Tests/Slice0.lean ====
section
/-! SUPPORT. Tests. Expected results are the spec's own vectors (95_test_vectors.md, named by number) or hand
calculation from the rules; the witnesses show that the hypotheses of the statements can be met. -/

namespace Sys2Proof.Tests

open Sys2Proof.Machine

/-- The next state, for comparison by decide. -/
def after : Host.Outcome State Fault Refusal → Option State
  | .next t => some t
  | _ => none

/-- A state as 95_test_vectors.md writes it, with nothing emitted. -/
def st (sess : Sess) (phase : Phase) (buf0 buf1 : Option Byte) (key2 key3 : KeyReg) : State :=
  { State.reset with sess := sess, phase := phase, buf0 := buf0, buf1 := buf1, key2 := key2, key3 := key3 }

/-- The session-start state (R170). -/
def started : State := st .active .scan none none .unasserted .unasserted

/-- OUT after these events from a state. -/
def outAfter (s : State) : List EventWord → Option (List Command)
  | [] => some s.out
  | ev :: rest =>
    match step { s with input := [ev] } with
    | .next t => outAfter t rest
    | _ => none

/-! ### Well-formedness: what it refuses -/

theorem test_skip_of_sync_is_ill_formed : (Instr.skip 0xFF#8).wellFormed = false := by decide
theorem test_skip_of_fe_is_well_formed : (Instr.skip 0xFE#8).wellFormed = true := by decide
theorem test_drop_of_axis_0_is_ill_formed : (Instr.drop 0x00#8 5#16).wellFormed = false := by decide
theorem test_drop_of_axis_3_is_ill_formed : (Instr.drop 0x03#8 5#16).wellFormed = false := by decide
theorem test_drop_of_axis_4_is_well_formed : (Instr.drop 0x04#8 5#16).wellFormed = true := by decide

/-! ### Decoding: words written out from R63, R67 and R68 -/

theorem test_decode_sync : decodeEvent .active .scan 0b000_1111_1111#11 = .sync := by decide
theorem test_decode_skip : decodeEvent .active .scan 0b000_0111_1111#11 = .skip 0x7F#8 := by decide
theorem test_decode_cap0 : decodeEvent .active .pay0 0b000_0000_0010#11 = .cap0 0x02#8 := by decide
theorem test_decode_cap1 : decodeEvent .active .pay1 0b000_0000_1010#11 = .cap1 0x0A#8 := by decide
theorem test_decode_cap2 : decodeEvent .active .pay2 0b000_1111_1111#11 = .cap2 0xFF#8 := by decide
theorem test_decode_idle : decodeEvent .active .scan 0b001_0000_0000#11 = .idle 0x00#8 := by decide
theorem test_decode_trunc : decodeEvent .active .pay0 0b001_0101_1010#11 = .trunc 0x5A#8 := by decide
theorem test_decode_close : decodeEvent .active .pay1 0b010_0000_0000#11 = .closeSession 0x00#8 := by decide
theorem test_decode_error : decodeEvent .active .scan 0b011_0000_0111#11 = .errorSession 0x07#8 := by decide
theorem test_decode_open : decodeEvent .closed .scan 0b100_0000_0000#11 = .openSession 0x00#8 := by decide
theorem test_decode_refused_open : decodeEvent .active .pay2 0b100_0000_0001#11 = .refusedOpen 0x01#8 := by decide
theorem test_decode_refused_byte : decodeEvent .closed .scan 0b000_0100_0001#11 = .refusedByte 0x41#8 := by decide
theorem test_decode_refused_timeout : decodeEvent .closed .scan 0b001_0000_0000#11 = .refusedTimeout 0x00#8 := by decide
theorem test_decode_refused_close : decodeEvent .closed .scan 0b010_0000_0000#11 = .refusedClose 0x00#8 := by decide
theorem test_decode_refused_error : decodeEvent .closed .scan 0b011_0000_0000#11 = .refusedError 0x00#8 := by decide
theorem test_decode_refused_kind5 : decodeEvent .active .scan 0b101_0000_0000#11 = .refusedKind5 0x00#8 := by decide
theorem test_decode_refused_kind6 : decodeEvent .closed .scan 0b110_0000_0000#11 = .refusedKind67 0#1 0x00#8 := by decide
theorem test_decode_refused_kind7 : decodeEvent .active .scan 0b111_1111_1111#11 = .refusedKind67 1#1 0xFF#8 := by decide
/-- X11. -/
theorem test_decode_movex : decodeBytes .active .pay2 [0xFF#8, 0x00#8, 0x00#8, 0x80#8] = .ok (.movex 0x8000#16) := by decide
/-- X10. -/
theorem test_decode_movey : decodeBytes .active .pay2 [0xFF#8, 0x01#8, 0xFB#8, 0xFF#8] = .ok (.movey 0xFFFB#16) := by decide
/-- D11. -/
theorem test_decode_keyh : decodeBytes .active .pay2 [0xFF#8, 0x02#8, 0xF6#8, 0xFF#8] = .ok (.keyh 0xFFF6#16) := by decide
/-- X4. -/
theorem test_decode_keyv : decodeBytes .active .pay2 [0xFF#8, 0x03#8, 0x05#8, 0x00#8] = .ok (.keyv 0x0005#16) := by decide
/-- P3. -/
theorem test_decode_drop : decodeBytes .active .pay2 [0xFF#8, 0x07#8, 0x12#8, 0x34#8] = .ok (.drop 0x07#8 0x3412#16) := by decide
theorem test_decode_refuses_a_frame_without_sync :
    decodeBytes .active .pay2 [0xFE#8, 0x00#8, 0x05#8, 0x00#8] = .error .noSyncByte := by decide
theorem test_decode_refuses_a_word_of_12_bits : decodeBytes .active .scan [0x00#8, 0x08#8] = .error .notAnEventWord := by decide
theorem test_decode_refuses_three_bytes : decodeBytes .active .scan [0xFF#8, 0x00#8, 0x05#8] = .error .wrongLength := by decide

/-- Every table number is read by the first row of spec/opcode_table.json that matches it (log entry 10). -/
theorem test_table_words :
    [0x0FF, 0x000, 0x080, 0x0C0, 0x0E0, 0x0F0, 0x0F8, 0x0FC, 0x0FE, 0x100, 0x200, 0x300, 0x400, 0x500, 0x600].map
      (fun w => (decodeTableWord 16 w).map mnemonicOf) =
    ["SYNC", "SKIP", "SKIP", "SKIP", "SKIP", "SKIP", "SKIP", "SKIP", "SKIP", "IDLE", "CLOSE", "ERROR", "OPEN",
      "REFUSED", "REFUSED"].map some := by decide

theorem test_table_frame_words :
    [0x000000FF, 0x000001FF, 0x000002FF, 0x000003FF, 0x000080FF, 0x000040FF, 0x000020FF, 0x000010FF, 0x000008FF,
      0x000004FF].map (fun w => (decodeTableWord 32 w).map mnemonicOf) =
    ["MOVEX", "MOVEY", "KEYH", "KEYV", "DROP", "DROP", "DROP", "DROP", "DROP", "DROP"].map some := by decide

/-- A placed frame word runs as the first operation after reset (X2). -/
theorem test_placed_frame_runs :
    (after (step (State.reset.withFetchWord 32 0x000501FF))).map (·.out) = some [.move 0#16 5#16] := by decide

/-- A placed event word runs as the first operation after reset (S1). -/
theorem test_placed_open_runs : after (step (State.reset.withFetchWord 16 0x400)) = some started := by decide

/-! ### One step each -/

/-- D1. -/
theorem test_sync : after (exec .sync started) = some (st .active .pay0 none none .unasserted .unasserted) := by decide
/-- D3. -/
theorem test_skip : after (exec (.skip 0xFE#8) started) = some started := by decide
/-- D5: a sync byte is data here. -/
theorem test_cap0 : after (exec (.cap0 0xFF#8) (st .active .pay0 none none .unasserted .unasserted)) =
    some (st .active .pay1 (some 0xFF#8) none .unasserted .unasserted) := by decide
/-- D7. -/
theorem test_cap1 : after (exec (.cap1 0x0A#8) (st .active .pay1 (some 0x02#8) none .unasserted .unasserted)) =
    some (st .active .pay2 (some 0x02#8) (some 0x0A#8) .unasserted .unasserted) := by decide
/-- D9: KEYH 10, then SCAN. -/
theorem test_cap2 : after (exec (.cap2 0x00#8) (st .active .pay2 (some 0x02#8) (some 0x0A#8) .unasserted .unasserted)) =
    some { st .active .scan none none .positive .unasserted with out := [.keyDown 0x64#8] } := by decide
/-- R105: an empty buffer faults and writes nothing else. -/
theorem test_cap2_empty_buffer : after (exec (.cap2 0x00#8) (st .active .pay2 none none .unasserted .unasserted)) =
    some { st .active .pay2 none none .unasserted .unasserted with fault := true } := by decide
/-- D12. -/
theorem test_idle : after (exec (.idle 0x00#8) started) = some started := by decide
/-- D15, D16. -/
theorem test_trunc : after (exec (.trunc 0x5A#8) (st .active .pay2 (some 0x02#8) (some 0x0A#8) .unasserted .unasserted)) =
    some started := by decide
/-- X1 and X11. -/
theorem test_movex : (after (exec (.movex 0x8000#16) started)).map (·.out) = some [.move 0x8000#16 0#16] := by decide
/-- X10. -/
theorem test_movey : (after (exec (.movey 0xFFFB#16) started)).map (·.out) = some [.move 0#16 0xFFFB#16] := by decide
/-- E7: the reversal, release first. -/
theorem test_keyh_reversal : after (exec (.keyh 0xFFF6#16) (st .active .scan none none .positive .negative)) =
    some { st .active .scan none none .negative .negative with out := [.keyUp 0x64#8, .keyDown 0x61#8] } := by decide
/-- X13. -/
theorem test_keyh_neutral : after (exec (.keyh 0x0000#16) started) = some started := by decide
/-- K3. -/
theorem test_keyv_lowest : after (exec (.keyv 0x8000#16) started) =
    some { st .active .scan none none .unasserted .negative with out := [.keyDown 0x73#8] } := by decide
/-- K10. -/
theorem test_keyv_illegal : after (exec (.keyv 0x0005#16) (st .active .scan none none .positive .illegal)) =
    some { st .active .scan none none .positive .illegal with fault := true } := by decide
/-- X8. -/
theorem test_drop : after (exec (.drop 0xFF#8 0x0005#16) started) = some started := by decide
/-- S13: nothing carries over but OUT. -/
theorem test_open : after (exec (.openSession 0x00#8)
    { st .closed .scan none none .unasserted .unasserted with out := [.keyUp 0x64#8, .endSession .closed] }) =
    some { started with out := [.keyUp 0x64#8, .endSession .closed] } := by decide
/-- S4. -/
theorem test_close : after (exec (.closeSession 0x00#8)
    (st .active .pay2 (some 0x02#8) (some 0x0A#8) .positive .unasserted)) =
    some { State.reset with out := [.keyUp 0x64#8, .endSession .closed] } := by decide
/-- S5. -/
theorem test_error : after (exec (.errorSession 0x07#8) (st .active .pay1 (some 0x03#8) none .unasserted .negative)) =
    some { State.reset with out := [.keyUp 0x73#8, .endSession .error] } := by decide
/-- T4 and T5: the two orders. -/
theorem test_release_orders :
    arrangeReleases .axis2First (keyUpOf .axis2 .negative) (keyUpOf .axis3 .positive) = [.keyUp 0x61#8, .keyUp 0x77#8] ∧
    arrangeReleases .axis3First (keyUpOf .axis2 .negative) (keyUpOf .axis3 .positive) = [.keyUp 0x77#8, .keyUp 0x61#8] := by
  decide
/-- S6 to S9, S10 and S11: the mark and nothing else. -/
theorem test_refused_byte : after (exec (.refusedByte 0xFF#8) State.reset) = some { State.reset with refused := true } := by decide
theorem test_refused_timeout : after (exec (.refusedTimeout 0#8) State.reset) = some { State.reset with refused := true } := by decide
theorem test_refused_close : after (exec (.refusedClose 0#8) State.reset) = some { State.reset with refused := true } := by decide
theorem test_refused_error : after (exec (.refusedError 0#8) State.reset) = some { State.reset with refused := true } := by decide
theorem test_refused_open : after (exec (.refusedOpen 0#8) started) = some { started with refused := true } := by decide
theorem test_refused_kind5 : after (exec (.refusedKind5 0#8) started) = some { started with refused := true } := by decide
theorem test_refused_kind67 : after (exec (.refusedKind67 1#1 0xFF#8) started) = some { started with refused := true } := by decide

/-- V3, V4, V5, V11 and V12. -/
theorem test_values : [0x7FFF#16, 0x8000#16, 0xFFFF#16, 0x0100#16, 0x00FF#16].map sext16 = [32767, -32768, -1, 256, 255] := by
  decide
/-- X2, X12 and E6: MOVE words. -/
theorem test_move_words :
    commandWord (.move 0#16 5#16) = 0x000050000#34 ∧ commandWord (.move 0#16 0x7FFF#16) = 0x07FFF0000#34 ∧
    commandWord (.move 0xFED4#16 0#16) = 0x00000FED4#34 := by decide
/-- X3, K4 and S3: key and END words. -/
theorem test_key_words :
    commandWord (.keyDown 0x64#8) = 0x100000064#34 ∧ commandWord (.keyUp 0x77#8) = 0x200000077#34 ∧
    commandWord (.endSession .error) = 0x300000001#34 := by decide

/-- E7, the source's press and reverse with its CLOSE. -/
theorem test_source_press_reverse :
    outAfter State.reset [0x400#11, 0x0FF#11, 0x002#11, 0x00A#11, 0x000#11, 0x0FF#11, 0x002#11, 0x0F6#11, 0x0FF#11, 0x200#11] =
      some [.keyDown 0x64#8, .keyUp 0x64#8, .keyDown 0x61#8, .keyUp 0x61#8, .endSession .closed] := by decide
/-- E8, the source's garbage byte and frame. -/
theorem test_source_garbage :
    outAfter State.reset [0x400#11, 0x001#11, 0x0FF#11, 0x000#11, 0x005#11, 0x000#11, 0x200#11] =
      some [.move 5#16 0#16, .endSession .closed] := by decide

/-! ### Witnesses: the hypotheses of the statements can be met -/

/-- A state with one event on the port. -/
def withEvent (s : State) (ev : EventWord) : State := { s with input := [ev] }

theorem witness_StepRunsDecodedEvent : (withEvent started 0x0FF#11).input = 0x0FF#11 :: [] := by decide
theorem witness_NoSessionIsRefused :
    [0x041#11, 0x100#11, 0x200#11, 0x300#11].map kindOf = [0#3, 1#3, 2#3, 3#3] := by decide
theorem witness_SecondOpenIsRefused : kindOf 0x4FF#11 = 4#3 := by decide
theorem witness_ReservedKindIsRefused : [0x500#11, 0x600#11, 0x7FF#11].map kindOf = [5#3, 6#3, 7#3] := by decide
theorem witness_KeyMapIsOneToOne :
    Config.keyMap .axis2 .positive = Config.keyMap .axis2 .positive ∧ KeyReg.positive ≠ .illegal := by decide
theorem witness_CommandWordLayout : commandWord (.keyUp 0x64#8) = commandWord (.keyUp 0x64#8) := rfl
theorem witness_NoEventChangesNothing : started.input = [] := by decide
/-- A step that sets REFUSED, and a step that sets FAULT; from marks that are set, both stay. -/
theorem witness_MarksAreStickyAndChangeNothingElse :
    (step (withEvent started 0x400#11) = .next { started with refused := true }) ∧
    (step (withEvent (st .active .pay2 none none .unasserted .unasserted) 0x000#11) =
      .next { st .active .pay2 none none .unasserted .unasserted with fault := true }) ∧
    (step { withEvent started 0x0FE#11 with refused := true, fault := true } =
      .next { started with refused := true, fault := true }) := ⟨rfl, rfl, rfl⟩
/-- The second clause at axis ids 2, 3 and 4, with the other KEY register illegal; the third with either buffer empty. -/
theorem witness_Cap2CompletesFrame :
    (∃ s : State, s.buf0 = some 0x02#8 ∧ s.buf1 = some 0x05#8 ∧ s.key2 ≠ .illegal ∧ s.key3 = .illegal) ∧
    (∃ s : State, s.buf0 = some 0x03#8 ∧ s.buf1 = some 0x05#8 ∧ s.key3 ≠ .illegal ∧ s.key2 = .illegal) ∧
    (∃ s : State, s.buf0 = some 0x04#8 ∧ s.buf1 = some 0x05#8 ∧ s.key2 = .illegal) ∧
    (∃ s : State, s.buf0 = none) ∧ ∃ s : State, s.buf1 = none :=
  ⟨⟨st .active .pay2 (some 0x02#8) (some 0x05#8) .positive .illegal, by decide⟩,
    ⟨st .active .pay2 (some 0x03#8) (some 0x05#8) .illegal .positive, by decide⟩,
    ⟨st .active .pay2 (some 0x04#8) (some 0x05#8) .illegal .positive, by decide⟩, ⟨started, rfl⟩, ⟨started, rfl⟩⟩
theorem witness_KeyhFollowsTransitionTable :
    (st .active .scan none none .negative .illegal).key2 ≠ .illegal ∧
    keyTransition 0x64#8 0x61#8 .negative (symbolOf (0x0005#16 : RawValue).toInt) =
      some ([.keyUp 0x61#8, .keyDown 0x64#8], .positive) := by decide
theorem witness_KeyvFollowsTransitionTable :
    (st .active .scan none none .illegal .positive).key3 ≠ .illegal ∧
    keyTransition 0x77#8 0x73#8 .positive (symbolOf (0x0000#16 : RawValue).toInt) =
      some ([.keyUp 0x77#8], .unasserted) := by decide
/-- A state that meets all five clauses' hypotheses but the buffers', which take the two ids in turn. -/
theorem witness_IllegalKeyFaults :
    (st .active .pay2 (some 0x02#8) (some 0x05#8) .illegal .illegal).key2 = .illegal ∧
    (st .active .pay2 (some 0x02#8) (some 0x05#8) .illegal .illegal).buf0 = some 0x02#8 ∧
    (st .active .pay2 (some 0x02#8) (some 0x05#8) .illegal .illegal).buf1 = some 0x05#8 ∧
    (st .active .pay2 (some 0x03#8) (some 0x05#8) .unasserted .illegal).key3 = .illegal ∧
    (st .active .pay2 (some 0x03#8) (some 0x05#8) .unasserted .illegal).buf0 = some 0x03#8 ∧
    (st .active .pay2 (some 0x03#8) (some 0x05#8) .unasserted .illegal).buf1 = some 0x05#8 := by decide
/-- Axis ids 0, 1, 2, 3 and 4, one for each clause. -/
theorem witness_FramesKeepToTheirAxis :
    (dispatch 0x000500FF#32 started = .ok { started with out := [.move 5#16 0#16] }) ∧
    (dispatch 0x000501FF#32 started = .ok { started with out := [.move 0#16 5#16] }) ∧
    (dispatch 0x000502FF#32 started = .ok { started with key2 := .positive, out := [.keyDown 0x64#8] }) ∧
    (dispatch 0x000503FF#32 started = .ok { started with key3 := .positive, out := [.keyDown 0x77#8] }) ∧
    (dispatch 0x000504FF#32 started = .ok started) ∧
    [0x000500FF#32, 0x000501FF#32, 0x000502FF#32, 0x000503FF#32, 0x000504FF#32].map frameAxis =
      [0x00#8, 0x01#8, 0x02#8, 0x03#8, 0x04#8] := ⟨rfl, rfl, rfl, rfl, rfl, by decide⟩
theorem witness_DiscreteAxesAreIndependent :
    keyOf .axis2 started = keyOf .axis2 (st .closed .pay1 none none .unasserted .negative) ∧
    keyStep .axis2 0x000A#16 started = .ok { started with key2 := .positive, out := [.keyDown 0x64#8] } := ⟨rfl, rfl⟩
theorem witness_RepeatedSampleIsSilent :
    symbolOf (0x0001#16 : RawValue).toInt = symbolOf (0x7FFF#16 : RawValue).toInt ∧
    keyStep .axis2 0x0001#16 started = .ok { started with key2 := .positive, out := [.keyDown 0x64#8] } ∧
    keyOf .axis2 (st .active .scan none none .positive .negative) = .positive := ⟨by decide, rfl, rfl⟩
theorem witness_ReleaseAllIsItsLoop :
    (started.key2 ≠ .illegal ∧ started.key3 ≠ .illegal) ∧
    (st .active .scan none none .illegal .positive).key2 = .illegal ∧
    (st .active .scan none none .positive .illegal).key3 = .illegal := by decide
theorem witness_CloseTearsDownSession : started.key2 ≠ .illegal ∧ started.key3 ≠ .illegal := by decide
theorem witness_ErrorTearsDownSession :
    (st .active .pay1 (some 0x03#8) none .negative .positive).key2 ≠ .illegal ∧
    (st .active .pay1 (some 0x03#8) none .negative .positive).key3 ≠ .illegal := by decide
/-- Two states that differ in every register. -/
theorem witness_OpenForgetsEarlierSession :
    State.reset.out = (st .active .pay2 (some 1#8) (some 2#8) .positive .negative).out ∧
    State.reset.refused = (st .active .pay2 (some 1#8) (some 2#8) .positive .negative).refused ∧
    State.reset.fault = (st .active .pay2 (some 1#8) (some 2#8) .positive .negative).fault ∧
    State.reset.input = (st .active .pay2 (some 1#8) (some 2#8) .positive .negative).input := by decide
/-- The first clause (CLOSE and ERROR), the second (each of its four operations), and the third (OPEN). -/
theorem witness_OnlyCloseAndErrorEndSession :
    step (withEvent started 0x200#11) = .next { State.reset with out := [.endSession .closed] } ∧
    step (withEvent started 0x300#11) = .next { State.reset with out := [.endSession .error] } ∧
    (exec (.skip 0x01#8) started = .next started ∧ exec (.idle 0#8) started = .next started ∧
      exec (.trunc 0#8) started = .next started ∧ exec (.drop 0x04#8 5#16) started = .next started) ∧
    (withEvent State.reset 0x400#11).sess = .closed ∧ (withEvent State.reset 0x400#11).input = 0x400#11 :: [] ∧
    kindOf 0x400#11 = 4#3 := ⟨rfl, rfl, ⟨rfl, rfl, rfl, rfl⟩, rfl, rfl, by decide⟩
theorem witness_EndMarksExactlySessionEnds :
    step (withEvent started 0x300#11) = .next { State.reset with out := [.endSession .error] } ∧
    started.sess = .active ∧ State.reset.sess = .closed := ⟨rfl, rfl, rfl⟩
theorem witness_FrameTableSelectsExactlyOne : frameSync 0x000504FF#32 = 0xFF#8 := by decide
theorem witness_DecodeOfEncode :
    (Instr.drop 0x04#8 0x8000#16).wellFormed = true ∧ (Instr.drop 0x04#8 0x8000#16).admittedIn .active .pay2 = true ∧
    (Instr.skip 0xFE#8).wellFormed = true ∧ (Instr.skip 0xFE#8).admittedIn .active .scan = true := by decide
theorem witness_EncodeOfDecode : decodeBytes .closed .scan [0xFF#8, 0x07#8] = .ok (.refusedKind67 1#1 0xFF#8) := by decide
theorem witness_DataOfOtherKindsIsIgnored : kindOf 0x307#11 = kindOf 0x300#11 ∧ kindOf 0x307#11 ≠ 0#3 := by decide
/-- A step that emits three commands. -/
theorem witness_OutOnlyGrowsInOrder :
    ∃ t, step (withEvent (st .active .scan none none .positive .positive) 0x200#11) = .next t ∧ t.sess = .closed :=
  ⟨_, rfl, rfl⟩
theorem witness_OutIsNeverReadBack :
    step (withEvent started 0x200#11) = .next { State.reset with out := [.endSession .closed] } := rfl
theorem witness_ClosedRegistersAreUnobservable :
    (withEvent State.reset 0x0FF#11).sess = .closed ∧ (withEvent State.reset 0x0FF#11).input = 0x0FF#11 :: [] ∧
    kindOf 0x0FF#11 ≠ 4#3 ∧ (withEvent State.reset 0x400#11).input = 0x400#11 :: [] ∧ kindOf 0x400#11 = 4#3 := by decide
theorem witness_PhaseOnlyAdvancesOrReturns :
    step (withEvent started 0x0FF#11) = .next { started with phase := .pay0 } := rfl
/-- A step that emits a KEY_DOWN, with the commands it appends. -/
theorem witness_OnlyCompleteFramesAct :
    step (withEvent (st .active .pay2 (some 0x02#8) (some 0x05#8) .unasserted .unasserted) 0x000#11) =
      .next { started with key2 := .positive, out := [] ++ [.keyDown 0x64#8] } ∧
    Command.keyDown 0x64#8 ∈ [Command.keyDown 0x64#8] := ⟨rfl, by decide⟩
theorem witness_OnlyFourKeyCodesEmitted :
    step (withEvent (st .active .pay2 (some 0x03#8) (some 0x05#8) .unasserted .negative) 0x000#11) =
      .next { started with key3 := .positive, out := [] ++ [.keyUp 0x73#8, .keyDown 0x77#8] } := rfl
/-- CAP2 in PAY2, and TIMEOUT in PAY0. -/
theorem witness_DecoderRestarts :
    (RegistersFit (withEvent (st .active .pay2 (some 0x07#8) (some 0x05#8) .unasserted .unasserted) 0x000#11) ∧
      kindOf 0x000#11 = 0#3) ∧
    (RegistersFit (withEvent (st .active .pay0 none none .unasserted .unasserted) 0x100#11) ∧ kindOf 0x100#11 = 1#3) ∧
    step (withEvent (st .active .pay2 (some 0x07#8) (some 0x05#8) .unasserted .unasserted) 0x000#11) = .next started :=
  ⟨by decide, by decide, rfl⟩
/-- The lowest value of the range. -/
theorem witness_FourBytesRunOneFrame :
    RegistersFit started ∧ started.sess = .active ∧ started.phase = .scan ∧ (-32768 : Int) ≤ -32768 ∧
    (-32768 : Int) ≤ 32767 ∧
    { started with input := [0x0FF#11, 0x003#11, 0x000#11, 0x080#11] }.input =
      (encodeFrameBytes 0x03#8 (-32768)).map (eventWord 0#3) ++ [] := by decide
theorem witness_DoubleSyncDropsFrame :
    RegistersFit started ∧ started.sess = .active ∧ started.phase = .scan ∧
    { started with input := [0x0FF#11, 0x0FF#11, 0x000#11, 0x005#11, 0x000#11] }.input =
      0x0FF#11 :: 0x0FF#11 :: eventWord 0#3 0x00#8 :: eventWord 0#3 0x05#8 :: [0x000#11] := by decide
theorem witness_StepKeepsRegistersFit :
    RegistersFit (withEvent (st .active .pay1 (some 0x02#8) none .positive .negative) 0x00A#11) ∧
    step (withEvent (st .active .pay1 (some 0x02#8) none .positive .negative) 0x00A#11) =
      .next (st .active .pay2 (some 0x02#8) (some 0x0A#8) .positive .negative) := ⟨by decide, rfl⟩
/-- OUT holds a press of 'd', and the frame reverses it. -/
theorem witness_StepKeepsKeyHistory :
    RegistersFit { withEvent (st .active .pay2 (some 0x02#8) (some 0xF6#8) .positive .unasserted) 0x0FF#11 with
      out := [.keyDown 0x64#8] } ∧
    HistoryFits { withEvent (st .active .pay2 (some 0x02#8) (some 0xF6#8) .positive .unasserted) 0x0FF#11 with
      out := [.keyDown 0x64#8] } ∧
    step { withEvent (st .active .pay2 (some 0x02#8) (some 0xF6#8) .positive .unasserted) 0x0FF#11 with
      out := [.keyDown 0x64#8] } =
      .next { started with key2 := .negative, out := [.keyDown 0x64#8, .keyUp 0x64#8, .keyDown 0x61#8] } :=
  ⟨by decide, by decide, rfl⟩
theorem witness_StepKeepsEndLast :
    EndIsLast started ∧ step (withEvent started 0x200#11) = .next { State.reset with out := [.endSession .closed] } :=
  ⟨by intro h; exact absurd h (by decide), rfl⟩
theorem witness_EveryRunIsSafe : Reachable (powerOn [0x400#11]) := .powerOn _

/-- One more step of a run. -/
theorem reach {s : State} (t : State) (h : Reachable s) (hs : step s = .next t) : Reachable t := .next s t h hs

/-- A run that presses 'd', releases it and presses it again. -/
theorem witness_PressesAreSeparatedByReleases :
    ∃ s, Reachable s ∧ s.out = [] ++ .keyDown 0x64#8 :: ([.keyUp 0x64#8] ++ .keyDown 0x64#8 :: []) ∧
      pressesOn .axis2 (.keyDown 0x64#8) = true :=
  ⟨_, reach _ (reach _ (reach _ (reach _ (reach _ (reach _ (reach _ (reach _ (reach _ (reach _ (reach _ (reach _ (reach _
    (.powerOn [0x400#11, 0x0FF#11, 0x002#11, 0x001#11, 0x000#11, 0x0FF#11, 0x002#11, 0x000#11, 0x000#11, 0x0FF#11,
      0x002#11, 0x001#11, 0x000#11])
    rfl) rfl) rfl) rfl) rfl) rfl) rfl) rfl) rfl) rfl) rfl) rfl) rfl, rfl, by decide⟩
/-- A complete run with one session. -/
theorem witness_CompleteRunHoldsNoKey : ∃ s, Reachable s ∧ Complete s ∧ s.out = [.endSession .closed] :=
  ⟨_, reach _ (reach _ (.powerOn [0x400#11, 0x200#11]) rfl) rfl, ⟨rfl, rfl, rfl, rfl⟩, rfl⟩

end Sys2Proof.Tests
end

/-! PROOFS. OUT only grows, at its end (R12): what each shared operation appends, and the bound of a whole step. -/

namespace Sys2Proof.Machine

/-- `t` holds the OUT of `s` with at most `n` commands appended. -/
def AppendsAtMost (n : Nat) (s t : State) : Prop := ∃ cs, t.out = s.out ++ cs ∧ cs.length ≤ n

/-! ### The relation -/

theorem appendsAtMost_of_out_eq {s t : State} (h : t.out = s.out) (n : Nat) : AppendsAtMost n s t :=
  ⟨[], by simp [h], Nat.zero_le n⟩

theorem AppendsAtMost.mono {m n : Nat} {s t : State} (h : AppendsAtMost m s t) (hmn : m ≤ n) :
    AppendsAtMost n s t := by
  obtain ⟨cs, hout, hlen⟩ := h
  exact ⟨cs, hout, hlen.trans hmn⟩

theorem emit_appendsAtMost_one (c : Command) (s : State) : AppendsAtMost 1 s (emit c s) :=
  ⟨[c], emit_out c s, le_rfl⟩

/-- Emitting several commands is emitting the first and then the others (R12). -/
theorem emitAll_cons (c : Command) (cs : List Command) (s : State) :
    emitAll (c :: cs) s = emitAll cs (emit c s) := by
  simp [emitAll, emit]

/-! ### What each operation appends -/

@[simp] theorem setKey_out (a : DiscreteAxis) (k : KeyReg) (s : State) : (setKey a k s).out = s.out := by
  cases a <;> rfl

theorem keyUpOf_length_le_one (a : DiscreteAxis) (sym : Symbol) : (keyUpOf a sym).length ≤ 1 := by
  unfold keyUpOf
  split <;> simp

theorem keyDownOf_length_le_one (a : DiscreteAxis) (sym : Symbol) : (keyDownOf a sym).length ≤ 1 := by
  unfold keyDownOf
  split <;> simp

theorem arrangeReleases_length (order : TeardownOrder) (up2 up3 : List Command) :
    (arrangeReleases order up2 up3).length = up2.length + up3.length := by
  cases order with
  | axis2First => exact List.length_append
  | axis3First => exact List.length_append.trans (Nat.add_comm _ _)

/-- KEYSTEP appends at most one release and one press (R153). -/
theorem keyStep_appendsAtMost_two {a : DiscreteAxis} {raw : RawValue} {s t : State} (h : keyStep a raw s = .ok t) :
    AppendsAtMost 2 s t := by
  obtain ⟨old, -, ⟨-, rfl⟩ | ⟨-, rfl⟩⟩ := keyStep_ok h
  · exact appendsAtMost_of_out_eq rfl 2
  · refine ⟨keyUpOf a old ++ keyDownOf a (symbolOfRaw raw), by simp, ?_⟩
    rw [List.length_append]
    exact Nat.add_le_add (keyUpOf_length_le_one a old) (keyDownOf_length_le_one a _)

theorem dispatch_appendsAtMost_two {w : FrameWord} {s t : State} (h : dispatch w s = .ok t) :
    AppendsAtMost 2 s t := by
  obtain ⟨-, rfl⟩ | ⟨-, rfl⟩ | ⟨-, hkey⟩ | ⟨-, hkey⟩ | ⟨-, rfl⟩ := dispatch_ok h
  · exact (emit_appendsAtMost_one _ s).mono (by decide)
  · exact (emit_appendsAtMost_one _ s).mono (by decide)
  · exact keyStep_appendsAtMost_two hkey
  · exact keyStep_appendsAtMost_two hkey
  · exact appendsAtMost_of_out_eq rfl 2

/-- CAP2's rescan leaves OUT alone, so a completed frame appends what its DISPATCH does (R105). -/
theorem completeFrame_appendsAtMost_two {b : Byte} {s t : State} (h : completeFrame b s = .ok t) :
    AppendsAtMost 2 s t := by
  obtain ⟨_, _, -, -, hdispatch⟩ := completeFrame_ok h
  have hrescan : AppendsAtMost 2 (rescan s) t := dispatch_appendsAtMost_two hdispatch
  exact hrescan

/-- A teardown appends at most one release for each axis, and the END (R158, R171, R172). -/
theorem teardown_appendsAtMost_three {r : EndReason} {s t : State} (h : teardown r s = .ok t) :
    AppendsAtMost 3 s t := by
  obtain ⟨old2, old3, -, -, rfl⟩ := teardown_ok h
  refine ⟨_, rfl, ?_⟩
  rw [List.length_append, arrangeReleases_length]
  have h2 := keyUpOf_length_le_one .axis2 old2
  have h3 := keyUpOf_length_le_one .axis3 old3
  exact Nat.add_le_add (Nat.add_le_add h2 h3) le_rfl

/-! ### Every step -/

theorem Effect.appendsAtMost_three {s t : State} {ev : EventWord} (h : Effect s ev t) : AppendsAtMost 3 s t := by
  cases h with
  | cap2 _ _ _ _ hframe => exact (completeFrame_appendsAtMost_two hframe).mono (by decide)
  | teardown _ _ _ _ hteardown => exact teardown_appendsAtMost_three hteardown
  | sync | skip | cap0 | cap1 | cap2Fault | idle | trunc | teardownFault | sessionOpen | refused =>
    exact appendsAtMost_of_out_eq rfl 3

/-- R12 for a step: it waits, or it takes an event off the port, which leaves OUT alone, and has one of its effects. -/
theorem step_appendsAtMost_three {s t : State} (h : step s = .next t) : AppendsAtMost 3 s t := by
  obtain ⟨-, rfl⟩ | ⟨_, _, -, heffect⟩ := step_cases h
  · exact appendsAtMost_of_out_eq rfl 3
  · exact heffect.appendsAtMost_three

/-- Settles O43: every effect of a step appends a bounded list to OUT, and `emitAll` unrolls into `emit`. -/
theorem outOnlyGrowsInOrder : Obligations.OutOnlyGrowsInOrder :=
  ⟨fun _ _ => rfl, emitAll_cons, fun _ _ => step_appendsAtMost_three⟩

end Sys2Proof.Machine


/-! PROOFS. The frame rows of the opcode table (R68, R73). Each row fixes the high bits of the AXIS field, so it
selects a block of axis ids: the rows of MOVEX, MOVEY, KEYH and KEYV one id each, and the rows of DROP the ids whose
leading one bit stands at one place. -/

namespace Sys2Proof

/-! ### Frame words -/

/-- A frame word has one axis id and one raw value (R61). -/
theorem frameWord_inj {a b : Byte} {r q : RawValue} : frameWord a r = frameWord b q ↔ a = b ∧ r = q := by
  constructor
  · intro h
    have haxis := congrArg frameAxis h
    have hraw := congrArg frameRaw h
    rw [frameAxis_frameWord, frameAxis_frameWord] at haxis
    rw [frameRaw_frameWord, frameRaw_frameWord] at hraw
    exact ⟨haxis, hraw⟩
  · rintro ⟨rfl, rfl⟩
    rfl

/-- Masking one frame word with another masks each field. -/
theorem frameWord_and (a b : Byte) (r q : RawValue) : frameWord a r &&& frameWord b q = frameWord (a &&& b) (r &&& q) := by
  unfold frameWord
  rw [BitVec.and_append, BitVec.and_append, BitVec.and_self]

/-! ### Rows that fix the high bits of the AXIS field -/

/-- The axis ids whose bits above the low `lowBits` ones are `high`, with the mnemonic of their frame row. -/
structure AxisBlock where
  mnemonic : String
  lowBits : Nat
  high : Nat

/-- Is the axis id in the block? -/
def AxisBlock.contains (b : AxisBlock) (id : Nat) : Bool := id / 2 ^ b.lowBits == b.high

/-- The frame row that asks for the sync byte and for an axis id of the block. -/
def AxisBlock.row (b : AxisBlock) : FrameRow where
  mnemonic := b.mnemonic
  pattern := frameWord (BitVec.ofNat 8 b.high <<< b.lowBits) 0#16
  mask := frameWord (BitVec.allOnes 8 <<< b.lowBits) 0#16

/-- The blocks of the frame rows, in the order of the opcode table. -/
def axisBlocks : List AxisBlock :=
  [⟨"MOVEX", 0, 0⟩, ⟨"MOVEY", 0, 1⟩, ⟨"KEYH", 0, 2⟩, ⟨"KEYV", 0, 3⟩,
    ⟨"DROP", 7, 1⟩, ⟨"DROP", 6, 1⟩, ⟨"DROP", 5, 1⟩, ⟨"DROP", 4, 1⟩, ⟨"DROP", 3, 1⟩, ⟨"DROP", 2, 1⟩]

theorem frameTable_eq_rows : frameTable = axisBlocks.map AxisBlock.row := by decide

theorem axisBlocks_fit_byte : ∀ b ∈ axisBlocks, b.high * 2 ^ b.lowBits < 256 := by decide

/-- A block is one id below 4, or the ids whose leading one bit stands at the place `lowBits`. -/
theorem axisBlocks_single_or_leadingOne : ∀ b ∈ axisBlocks, b.lowBits = 0 ∧ b.high < 4 ∨ b.high = 1 := by decide

/-- The bits of a byte above its low `k` bits are `c` exactly when its quotient by `2^k` is. -/
theorem highBits_eq_iff (a : Byte) {k c : Nat} (hc : c * 2 ^ k < 256) :
    a &&& BitVec.allOnes 8 <<< k = BitVec.ofNat 8 c <<< k ↔ a.toNat / 2 ^ k = c := by
  have hpos : 0 < 2 ^ k := Nat.two_pow_pos k
  have hleft : a.toNat / 2 ^ k * 2 ^ k < 256 := (Nat.div_mul_le_self _ _).trans_lt a.isLt
  have hsmall : c < 256 := (Nat.le_mul_of_pos_right c hpos).trans_lt hc
  rw [← BitVec.shiftLeft_ushiftRight, ← BitVec.toNat_inj]
  simp only [BitVec.toNat_shiftLeft, BitVec.toNat_ushiftRight, BitVec.toNat_ofNat, Nat.shiftLeft_eq,
    Nat.shiftRight_eq_div_pow, Nat.reducePow, Nat.mod_eq_of_lt hleft, Nat.mod_eq_of_lt hsmall, Nat.mod_eq_of_lt hc]
  exact Nat.mul_left_inj hpos.ne'

/-- The row of a block selects a completed frame by its axis id, whatever its value field. -/
theorem AxisBlock.row_selects {w : FrameWord} (hsync : frameSync w = Config.sync) (b : AxisBlock)
    (hfit : b.high * 2 ^ b.lowBits < 256) : b.row.selects w = b.contains (frameAxis w).toNat := by
  rw [Bool.eq_iff_iff, FrameRow.selects, AxisBlock.contains, beq_iff_eq, beq_iff_eq]
  calc w &&& b.row.mask = b.row.pattern
      ↔ frameWord (frameAxis w) (frameRaw w) &&& frameWord (BitVec.allOnes 8 <<< b.lowBits) 0#16 =
          frameWord (BitVec.ofNat 8 b.high <<< b.lowBits) 0#16 := by rw [frameWord_fields w hsync]; rfl
    _ ↔ frameAxis w &&& BitVec.allOnes 8 <<< b.lowBits = BitVec.ofNat 8 b.high <<< b.lowBits := by
        rw [frameWord_and, frameWord_inj, BitVec.and_zero]
        exact and_iff_left rfl
    _ ↔ (frameAxis w).toNat / 2 ^ b.lowBits = b.high := highBits_eq_iff _ hfit

/-! ### The mnemonic of an axis id -/

/-- The mnemonic of the operation that an axis id selects (R68). -/
def axisMnemonic : Nat → String
  | 0 => "MOVEX"
  | 1 => "MOVEY"
  | 2 => "KEYH"
  | 3 => "KEYV"
  | _ => "DROP"

theorem axisMnemonic_of_four_le {n : Nat} (h : 4 ≤ n) : axisMnemonic n = "DROP" := by
  obtain ⟨m, rfl⟩ := Nat.exists_eq_add_of_le' h
  rfl

/-- The decoder reads the operation that the axis id names, whatever the raw value. -/
theorem mnemonicOf_decodeAxis (axis : Byte) (raw : RawValue) :
    mnemonicOf (decodeAxis axis raw) = axisMnemonic axis.toNat := by
  unfold decodeAxis
  split_ifs with h0 h1 h2 h3
  · rw [h0]; rfl
  · rw [h1]; rfl
  · rw [h2]; rfl
  · rw [h3]; rfl
  · have hfour : 4 ≤ axis.toNat := by
      simp only [← BitVec.toNat_inj, Config.axisMoveX, Config.axisMoveY, Config.axisKeyH, Config.axisKeyV,
        BitVec.toNat_ofNat] at h0 h1 h2 h3
      omega
    rw [axisMnemonic_of_four_le hfour]
    rfl

/-! ### The blocks and rows of an axis id -/

/-- The place of the leading one bit of an axis id is the number of low bits its quotient 1 leaves out. -/
theorem div_two_pow_eq_one_iff {n : Nat} (hn : n ≠ 0) (k : Nat) : n / 2 ^ k = 1 ↔ n.log2 = k := by
  have hpos : 0 < 2 ^ k := Nat.two_pow_pos k
  rw [Nat.log2_eq_iff hn, Nat.div_eq_iff hpos, Nat.pow_succ]
  omega

/-- From id 4 on, the one block of an id is that of the place of its leading one bit. -/
theorem AxisBlock.contains_of_four_le {b : AxisBlock} (hb : b ∈ axisBlocks) {n : Nat} (hn : 4 ≤ n) :
    b.contains n = decide (b.lowBits = n.log2) := by
  have hne : n ≠ 0 := by omega
  rw [Bool.eq_iff_iff, AxisBlock.contains, beq_iff_eq, decide_eq_true_iff]
  obtain ⟨hlow, hhigh⟩ | hhigh := axisBlocks_single_or_leadingOne b hb
  · have hlog : 2 ≤ n.log2 := (Nat.le_log2 hne).mpr hn
    rw [hlow, pow_zero, Nat.div_one]
    omega
  · rw [hhigh, div_two_pow_eq_one_iff hne, eq_comm]

/-- The blocks are disjoint and cover all 256 axis ids (R68). -/
theorem mnemonics_of_axisBlocks_containing {n : Nat} (hn : n < 256) :
    (axisBlocks.filter (·.contains n)).map (·.mnemonic) = [axisMnemonic n] := by
  rcases Nat.lt_or_ge n 4 with hid | hother
  · interval_cases n <;> rfl
  · have hne : n ≠ 0 := by omega
    have hlow : 2 ≤ n.log2 := (Nat.le_log2 hne).mpr hother
    have hhigh : n.log2 < 8 := (Nat.log2_lt hne).mpr hn
    rw [List.filter_congr fun b hb => b.contains_of_four_le hb hother, axisMnemonic_of_four_le hother]
    generalize n.log2 = place at hlow hhigh
    interval_cases place <;> rfl

/-- The rows that select a completed frame are those of the blocks that contain its axis id. -/
theorem frameTable_filter_selects {w : FrameWord} (hsync : frameSync w = Config.sync) :
    frameTable.filter (·.selects w) = (axisBlocks.filter (·.contains (frameAxis w).toNat)).map AxisBlock.row := by
  rw [frameTable_eq_rows, List.filter_map]
  exact congrArg _ (List.filter_congr fun b hb => b.row_selects hsync (axisBlocks_fit_byte b hb))

/-- A completed frame selects exactly one row, that of its axis id (R68). -/
theorem mnemonics_of_selected_frameRows {w : FrameWord} (hsync : frameSync w = Config.sync) :
    (frameTable.filter (·.selects w)).map (·.mnemonic) = [axisMnemonic (frameAxis w).toNat] := by
  rw [frameTable_filter_selects hsync, List.map_map]
  exact mnemonics_of_axisBlocks_containing (frameAxis w).isLt

/-- Settles O38: the one selected row and the decoder's operation have the mnemonic that the axis id names. -/
theorem frameTableSelectsExactlyOne : Obligations.FrameTableSelectsExactlyOne := by
  intro w hsync
  have hmnemonic := mnemonicOf_decodeAxis (frameAxis w) (frameRaw w)
  refine ⟨decodeAxis (frameAxis w) (frameRaw w), if_pos hsync, ?_, hmnemonic⟩
  rw [hmnemonic]
  exact mnemonics_of_selected_frameRows hsync

end Sys2Proof


/-! PROOFS. The event operations of the Frame Decoder that only move PHASE and the payload buffers (R67, R101 to R104,
R107). What selects an event operation is said once for all of them: its encoding, and the SESS and PHASE it
is admitted in. -/

namespace Sys2Proof

/-! ### What selects an event operation -/

/-- An event word has one KIND and one DATA (R63). -/
theorem eq_eventWord_iff {ev : EventWord} {kind : BitVec 3} {data : Byte} :
    ev = eventWord kind data ↔ kindOf ev = kind ∧ dataOf ev = data := by
  constructor
  · rintro rfl
    exact ⟨kindOf_eventWord kind data, dataOf_eventWord kind data⟩
  · rintro ⟨rfl, rfl⟩
    exact (eventWord_fields ev).symm

/-- The operation is well-formed and admitted in SESS and PHASE, and the event is its word (R67). -/
structure SelectedBy (sess : Sess) (phase : Phase) (ev : EventWord) (i : Instr) : Prop where
  wellFormed : i.wellFormed = true
  admitted : i.admittedIn sess phase = true
  encoded : encodeWord i = .event ev

theorem selectedBy_decodeEvent_eventWord (sess : Sess) (phase : Phase) (kind : BitVec 3) (data : Byte) :
    SelectedBy sess phase (eventWord kind data) (decodeEvent sess phase (eventWord kind data)) := by
  unfold decodeEvent
  rw [kindOf_eventWord, dataOf_eventWord]
  rcases Machine.kind_cases kind with rfl | rfl | rfl | rfl | rfl | rfl | rfl | rfl
  case inl =>
    cases sess with
    | closed => exact ⟨rfl, rfl, rfl⟩
    | active =>
      cases phase with
      | scan =>
        by_cases hsync : data = Config.sync
        · rw [hsync]
          exact ⟨rfl, rfl, rfl⟩
        · simp only [kindOfField, if_neg hsync]
          exact ⟨bne_iff_ne.mpr hsync, rfl, rfl⟩
      | pay0 | pay1 | pay2 => exact ⟨rfl, rfl, rfl⟩
  case inr.inl =>
    cases sess with
    | closed => exact ⟨rfl, rfl, rfl⟩
    | active => cases phase with | scan | pay0 | pay1 | pay2 => exact ⟨rfl, rfl, rfl⟩
  all_goals cases sess with | closed | active => exact ⟨rfl, rfl, rfl⟩

/-- The decoder answers an operation that the event selects. -/
theorem selectedBy_decodeEvent (sess : Sess) (phase : Phase) (ev : EventWord) :
    SelectedBy sess phase ev (decodeEvent sess phase ev) := by
  have h := selectedBy_decodeEvent_eventWord sess phase (kindOf ev) (dataOf ev)
  rwa [eventWord_fields] at h

/-- An event selects no operation but the decoder's: SESS and PHASE tell apart the operations that share a word. -/
theorem SelectedBy.decodeEvent_eq {sess : Sess} {phase : Phase} {ev : EventWord} {i : Instr}
    (h : SelectedBy sess phase ev i) : decodeEvent sess phase ev = i := by
  obtain ⟨hwf, hadm, henc⟩ := h
  cases i with
  | movex | movey | keyh | keyv | drop => nomatch henc
  | skip b =>
    have hb : b ≠ Config.sync := bne_iff_ne.mp hwf
    obtain ⟨rfl, rfl⟩ : sess = .active ∧ phase = .scan := by simpa [Instr.admittedIn] using hadm
    cases henc
    simp [decodeEvent, kindOfField, hb]
  | trunc data =>
    obtain ⟨rfl, hphase⟩ : sess = .active ∧ phase ≠ .scan := by simpa [Instr.admittedIn] using hadm
    cases henc
    simp [decodeEvent, kindOfField]
  | refusedKind67 low data =>
    cases henc
    rcases BitVec.eq_zero_or_eq_one low with rfl | rfl <;> simp [decodeEvent, kindOfField]
  | refusedKind5 data =>
    cases henc
    simp [decodeEvent, kindOfField]
  | sync | cap0 | cap1 | cap2 | idle | closeSession | errorSession | openSession | refusedOpen | refusedByte
  | refusedTimeout | refusedClose | refusedError =>
    simp only [Instr.admittedIn, Bool.and_eq_true, beq_iff_eq] at hadm
    cases henc
    simp [decodeEvent, kindOfField, hadm]

/-- R67: the decoder answers exactly the operation that the event selects. -/
theorem decodeEvent_eq_iff {sess : Sess} {phase : Phase} {ev : EventWord} {i : Instr} :
    decodeEvent sess phase ev = i ↔ SelectedBy sess phase ev i :=
  ⟨fun h => h ▸ selectedBy_decodeEvent sess phase ev, SelectedBy.decodeEvent_eq⟩

/-- R67 for an operation whose word is known: what admits it, its word, and where its field is bounded, the bound. -/
theorem decodeEvent_eq_iff_of_encodeWord {i : Instr} {word : EventWord} (henc : encodeWord i = .event word)
    {sess : Sess} {phase : Phase} {ev : EventWord} :
    decodeEvent sess phase ev = i ↔ i.admittedIn sess phase = true ∧ ev = word ∧ i.wellFormed = true := by
  rw [decodeEvent_eq_iff]
  constructor
  · rintro ⟨hwf, hadm, hev⟩
    exact ⟨hadm, PortWord.event.inj (hev.symm.trans henc), hwf⟩
  · rintro ⟨hadm, rfl, hwf⟩
    exact ⟨hwf, hadm, henc⟩

end Sys2Proof

namespace Sys2Proof.Machine

/-! ### The operations -/

/-- Settles O10: the fields of SYNC's word, KIND 0 and the sync byte, make it 0x0FF. -/
theorem syncStartsPayload : Obligations.SyncStartsPayload := by
  refine ⟨fun sess phase ev => ?_, fun _ => rfl⟩
  have hword : encodeWord .sync = .event 0x0FF#11 := rfl
  rw [decodeEvent_eq_iff_of_encodeWord hword]
  simp [Instr.wellFormed, Instr.admittedIn, and_assoc]

/-- Settles O11: a SKIP is well-formed exactly when its byte is not the sync byte. -/
theorem skipChangesNothing : Obligations.SkipChangesNothing := by
  refine ⟨fun sess phase ev b => ?_, fun _ _ => rfl⟩
  have hword : encodeWord (.skip b) = .event (eventWord 0#3 b) := rfl
  rw [decodeEvent_eq_iff_of_encodeWord hword, eq_eventWord_iff]
  simp [Instr.wellFormed, Instr.admittedIn, Config.sync, and_assoc]

/-- Settles O12: CAP0's byte is not bounded, so the sync byte is one too. -/
theorem cap0StoresAxisByte : Obligations.Cap0StoresAxisByte := by
  refine ⟨fun sess phase ev b => ?_, fun _ _ => rfl⟩
  have hword : encodeWord (.cap0 b) = .event (eventWord 0#3 b) := rfl
  rw [decodeEvent_eq_iff_of_encodeWord hword, eq_eventWord_iff]
  simp [Instr.wellFormed, Instr.admittedIn, and_assoc]

/-- Settles O13: CAP1 has CAP0's word, and PHASE tells them apart. -/
theorem cap1StoresLowByte : Obligations.Cap1StoresLowByte := by
  refine ⟨fun sess phase ev b => ?_, fun _ _ => rfl⟩
  have hword : encodeWord (.cap1 b) = .event (eventWord 0#3 b) := rfl
  rw [decodeEvent_eq_iff_of_encodeWord hword, eq_eventWord_iff]
  simp [Instr.wellFormed, Instr.admittedIn, and_assoc]

/-- Settles O16: every PHASE but SCAN admits TRUNC, and its rule is the rescan. -/
theorem truncDiscardsPayload : Obligations.TruncDiscardsPayload := by
  refine ⟨fun sess phase ev data => ?_, fun _ _ => rfl⟩
  have hword : encodeWord (.trunc data) = .event (eventWord 1#3 data) := rfl
  rw [decodeEvent_eq_iff_of_encodeWord hword, eq_eventWord_iff]
  simp [Instr.wellFormed, Instr.admittedIn, and_assoc]

end Sys2Proof.Machine


/-! PROOFS. The axis demultiplexer (42_axis_demux.md, R130 to R136): which frame words select a frame operation, what
KEYSTEP does as one equation over the nine rows of R153, and what each frame leaves unchanged. -/

namespace Sys2Proof

/-! ### What selects a frame operation -/

/-- The ids DISPATCH drops are those of none of the four operations (R68). -/
theorem validAxis_eq_false_iff_ne {axis : Byte} : validAxis axis = false ↔
    axis ≠ Config.axisMoveX ∧ axis ≠ Config.axisMoveY ∧ axis ≠ Config.axisKeyH ∧ axis ≠ Config.axisKeyV := by
  simp [validAxis, and_assoc]

/-- The ids DISPATCH drops are 4 to 255 (R135). -/
theorem validAxis_eq_false_iff_four_le {axis : Byte} : validAxis axis = false ↔ 4 ≤ axis.toNat := by
  rw [validAxis_eq_false_iff_ne]
  simp only [Config.axisMoveX, Config.axisMoveY, Config.axisKeyH, Config.axisKeyV, ne_eq, ← BitVec.toNat_inj,
    BitVec.toNat_ofNat]
  omega

/-- The decoder keeps the axis id and the value, and drops no valid axis. -/
theorem decodeAxis_selected (axis : Byte) (raw : RawValue) :
    (decodeAxis axis raw).wellFormed = true ∧ encodeWord (decodeAxis axis raw) = .frame (frameWord axis raw) := by
  unfold decodeAxis
  split_ifs with h0 h1 h2 h3
  · exact ⟨rfl, h0 ▸ rfl⟩
  · exact ⟨rfl, h1 ▸ rfl⟩
  · exact ⟨rfl, h2 ▸ rfl⟩
  · exact ⟨rfl, h3 ▸ rfl⟩
  · exact ⟨by simp [Instr.wellFormed, validAxis_eq_false_iff_ne.mpr ⟨h0, h1, h2, h3⟩], rfl⟩

theorem decodeAxis_of_validAxis_eq_false {axis : Byte} (h : validAxis axis = false) (raw : RawValue) :
    decodeAxis axis raw = .drop axis raw := by
  obtain ⟨h0, h1, h2, h3⟩ := validAxis_eq_false_iff_ne.mp h
  rw [decodeAxis, if_neg h0, if_neg h1, if_neg h2, if_neg h3]

theorem decodeFrame_frameWord (axis : Byte) (raw : RawValue) :
    decodeFrame (frameWord axis raw) = .ok (decodeAxis axis raw) := by
  simp [decodeFrame]

/-- R68: the decoder answers exactly the well-formed operation whose word the frame is. -/
theorem decodeFrame_eq_ok_iff {w : FrameWord} {i : Instr} :
    decodeFrame w = .ok i ↔ i.wellFormed = true ∧ encodeWord i = .frame w := by
  constructor
  · intro h
    unfold decodeFrame at h
    split at h
    · next hsync =>
      obtain rfl := Except.ok.inj h
      have hselected := decodeAxis_selected (frameAxis w) (frameRaw w)
      rwa [frameWord_fields w hsync] at hselected
    · nomatch h
  · rintro ⟨hwf, henc⟩
    cases i with
    | movex | movey | keyh | keyv =>
      cases henc
      exact decodeFrame_frameWord _ _
    | drop axis raw =>
      cases henc
      rw [decodeFrame_frameWord, decodeAxis_of_validAxis_eq_false (by simpa [Instr.wellFormed] using hwf)]
    | sync | skip | cap0 | cap1 | cap2 | idle | trunc | closeSession | errorSession | openSession | refusedOpen
    | refusedByte | refusedTimeout | refusedClose | refusedError | refusedKind5 | refusedKind67 => nomatch henc

/-- R68 for an operation whose word is known. -/
theorem decodeFrame_eq_ok_iff_of_encodeWord {i : Instr} {word : FrameWord} (henc : encodeWord i = .frame word)
    {w : FrameWord} : decodeFrame w = .ok i ↔ w = word ∧ i.wellFormed = true := by
  rw [decodeFrame_eq_ok_iff, henc, PortWord.frame.injEq, eq_comm (a := word), and_comm]

/-- The low half of a frame word is its axis id above the sync byte (R61). -/
theorem frameWord_eq_raw_append_lowHalf (axis : Byte) (raw : RawValue) :
    frameWord axis raw = raw ++ (axis ++ Config.sync) := BitVec.append_assoc

/-- R131 to R134: an operation of one axis id is selected by the low half of the frame alone. -/
theorem decodeFrame_eq_ok_iff_lowHalf (axis : Byte) {i : Instr} {raw : RawValue} {low : BitVec 16}
    (henc : encodeWord i = .frame (frameWord axis raw)) (hwf : i.wellFormed = true) (hlow : axis ++ Config.sync = low)
    (w : FrameWord) : decodeFrame w = .ok i ↔ w = raw ++ low := by
  rw [decodeFrame_eq_ok_iff_of_encodeWord henc, frameWord_eq_raw_append_lowHalf, hlow]
  exact and_iff_left hwf

end Sys2Proof

namespace Sys2Proof.Machine

/-! ### KEYSTEP as one equation (R153) -/

@[simp] theorem keyMap_neutral (a : DiscreteAxis) : Config.keyMap a .neutral = none := by
  cases a <;> rfl

@[simp] theorem emitAll_nil (s : State) : emitAll [] s = s := by
  simp [emitAll]

@[simp] theorem setKey_keyOf (a : DiscreteAxis) (s : State) : setKey a (keyOf a s) s = s := by
  cases a <;> rfl

/-- A legal KEY register holds a symbol (R25). -/
theorem exists_keyOfSymbol_of_ne_illegal {k : KeyReg} (h : k ≠ .illegal) : ∃ sym, k = keyOfSymbol sym := by
  cases k with
  | unasserted => exact ⟨.neutral, rfl⟩
  | positive => exact ⟨.positive, rfl⟩
  | negative => exact ⟨.negative, rfl⟩
  | illegal => exact absurd rfl h

/-- The symbol of a value is the sign of its library reading (R9, R150). -/
theorem symbolOfRaw_eq (raw : RawValue) : symbolOfRaw raw = symbolOf raw.toInt := by
  rw [symbolOfRaw, sext16_eq_toInt]

/-- The commands of KEYSTEP from one symbol to another: none for the symbol already asserted, else the release, then
the press (R153). -/
def keyCommands (a : DiscreteAxis) (old new : Symbol) : List Command :=
  if new = old then [] else keyUpOf a old ++ keyDownOf a new

@[simp] theorem keyCommands_self (a : DiscreteAxis) (sym : Symbol) : keyCommands a sym sym = [] := if_pos rfl

theorem keyCommands_of_ne {a : DiscreteAxis} {old new : Symbol} (h : new ≠ old) :
    keyCommands a old new = keyUpOf a old ++ keyDownOf a new := if_neg h

/-- KEYSTEP from a legal KEY register emits its commands and stores the new symbol. Writing back the symbol already
asserted changes nothing, so this covers R153's case of no change too. -/
theorem keyStep_of_keyOf {a : DiscreteAxis} {old : Symbol} {s : State} (h : keyOf a s = keyOfSymbol old)
    (raw : RawValue) :
    keyStep a raw s =
      .ok (setKey a (keyOfSymbol (symbolOfRaw raw)) (emitAll (keyCommands a old (symbolOfRaw raw)) s)) := by
  unfold keyStep
  rw [readKey_ok_iff.mpr h]
  by_cases hsame : symbolOfRaw raw = old
  · simp [hsame, ← h]
  · simp [hsame, keyCommands_of_ne]

/-- KEYSTEP answers a state only from a legal KEY register. -/
theorem keyStep_eq_ok {a : DiscreteAxis} {raw : RawValue} {s t : State} (h : keyStep a raw s = .ok t) :
    ∃ old, t = setKey a (keyOfSymbol (symbolOfRaw raw)) (emitAll (keyCommands a old (symbolOfRaw raw)) s) := by
  obtain ⟨old, hold, -⟩ := keyStep_ok h
  exact ⟨old, Except.ok.inj (h.symm.trans (keyStep_of_keyOf hold raw))⟩

/-- The nine rows of R153 are KEYSTEP's commands and code, over the keys that KEYMAP gives the axis. -/
theorem keyTransition_keyOfSymbol {a : DiscreteAxis} {p n : Byte} (hp : Config.keyMap a .positive = some p)
    (hn : Config.keyMap a .negative = some n) (old new : Symbol) :
    keyTransition p n (keyOfSymbol old) new = some (keyCommands a old new, keyOfSymbol new) := by
  cases old <;> cases new <;>
    simp [keyTransition, keyOfSymbol, keyCommands, keyUpOf, keyDownOf, hp, hn]

/-- KEYSTEP follows the transition table of its axis's keys, and writes its KEY register and OUT only (R153). -/
theorem keyStep_follows_keyTransition {a : DiscreteAxis} {p n : Byte} (hp : Config.keyMap a .positive = some p)
    (hn : Config.keyMap a .negative = some n) (raw : RawValue) {s : State} (hlegal : keyOf a s ≠ .illegal) :
    ∃ cs k, keyTransition p n (keyOf a s) (symbolOf raw.toInt) = some (cs, k) ∧
      keyStep a raw s = .ok (setKey a k (emitAll cs s)) := by
  obtain ⟨old, hold⟩ := exists_keyOfSymbol_of_ne_illegal hlegal
  rw [← symbolOfRaw_eq, hold]
  exact ⟨_, _, keyTransition_keyOfSymbol hp hn old _, keyStep_of_keyOf hold raw⟩

/-! ### The keys of KEYSTEP's commands -/

/-- KEYMAP gives an axis its own keys only (R151). -/
theorem isKeyOf_of_keyMap {a : DiscreteAxis} {sym : Symbol} {k : Byte} (h : Config.keyMap a sym = some k) :
    isKeyOf a k = true := by
  cases sym with
  | neutral => simp at h
  | positive => simp [isKeyOf, h]
  | negative => simp [isKeyOf, h]

theorem mem_keyUpOf {a : DiscreteAxis} {sym : Symbol} {c : Command} :
    c ∈ keyUpOf a sym ↔ ∃ k, Config.keyMap a sym = some k ∧ c = .keyUp k := by
  unfold keyUpOf
  cases Config.keyMap a sym <;> simp

theorem mem_keyDownOf {a : DiscreteAxis} {sym : Symbol} {c : Command} :
    c ∈ keyDownOf a sym ↔ ∃ k, Config.keyMap a sym = some k ∧ c = .keyDown k := by
  unfold keyDownOf
  cases Config.keyMap a sym <;> simp

/-- KEYSTEP presses and releases its own axis's keys only (R136, R154). -/
theorem pressesOn_or_releasesOn_of_mem_keyCommands {a : DiscreteAxis} {old new : Symbol} {c : Command}
    (h : c ∈ keyCommands a old new) : pressesOn a c = true ∨ releasesOn a c = true := by
  by_cases hsame : new = old
  · rw [hsame, keyCommands_self] at h
    nomatch h
  · rw [keyCommands_of_ne hsame, List.mem_append] at h
    obtain hup | hdown := h
    · obtain ⟨k, hk, rfl⟩ := mem_keyUpOf.mp hup
      exact .inr (isKeyOf_of_keyMap hk)
    · obtain ⟨k, hk, rfl⟩ := mem_keyDownOf.mp hdown
      exact .inl (isKeyOf_of_keyMap hk)

/-- What KEYSTEP writes: its own KEY register, and its own axis's keys at the end of OUT. -/
theorem keyStep_frame {a : DiscreteAxis} {raw : RawValue} {s t : State} (h : keyStep a raw s = .ok t) :
    ∃ cs, t = setKey a (keyOf a t) (emitAll cs s) ∧ ∀ c ∈ cs, pressesOn a c = true ∨ releasesOn a c = true := by
  obtain ⟨old, rfl⟩ := keyStep_eq_ok h
  refine ⟨keyCommands a old (symbolOfRaw raw), ?_, fun _ => pressesOn_or_releasesOn_of_mem_keyCommands⟩
  rw [keyOf_setKey, if_pos rfl]

/-! ### The frame operations -/

/-- DISPATCH drops every frame of an axis id that is not valid (R135). -/
theorem dispatch_of_validAxis_eq_false {w : FrameWord} (h : validAxis (frameAxis w) = false) (s : State) :
    dispatch w s = .ok s := by
  obtain ⟨h0, h1, h2, h3⟩ := validAxis_eq_false_iff_ne.mp h
  rw [dispatch_eq, if_neg h0, if_neg h1, if_neg h2, if_neg h3]

theorem exec_keyh_of_keyStep_ok {raw : RawValue} {s t : State} (h : keyStep .axis2 raw s = .ok t) :
    exec (.keyh raw) s = .next t := congrArg Host.Outcome.next (atomically_ok h)

theorem exec_keyv_of_keyStep_ok {raw : RawValue} {s t : State} (h : keyStep .axis3 raw s = .ok t) :
    exec (.keyv raw) s = .next t := congrArg Host.Outcome.next (atomically_ok h)

/-- Settles O17: MOVEX's axis id and the sync byte make the low half 0x00FF. -/
theorem movexEmitsOneMove : Obligations.MovexEmitsOneMove :=
  ⟨fun w _ => decodeFrame_eq_ok_iff_lowHalf Config.axisMoveX rfl rfl rfl w, fun _ _ => rfl⟩

/-- Settles O18: MOVEY's axis id and the sync byte make the low half 0x01FF. -/
theorem moveyEmitsOneMove : Obligations.MoveyEmitsOneMove :=
  ⟨fun w _ => decodeFrame_eq_ok_iff_lowHalf Config.axisMoveY rfl rfl rfl w, fun _ _ => rfl⟩

/-- Settles O19: KEYH is KEYSTEP of axis 2, whose keys KEYMAP makes 'd' and 'a'. -/
theorem keyhFollowsTransitionTable : Obligations.KeyhFollowsTransitionTable := by
  refine ⟨fun w _ => decodeFrame_eq_ok_iff_lowHalf Config.axisKeyH rfl rfl rfl w, fun raw s hlegal => ?_⟩
  obtain ⟨cs, k, htable, hstep⟩ := keyStep_follows_keyTransition (a := .axis2) rfl rfl raw hlegal
  exact ⟨cs, k, htable, exec_keyh_of_keyStep_ok hstep⟩

/-- Settles O20: KEYV is KEYSTEP of axis 3, whose keys KEYMAP makes 'w' and 's'. -/
theorem keyvFollowsTransitionTable : Obligations.KeyvFollowsTransitionTable := by
  refine ⟨fun w _ => decodeFrame_eq_ok_iff_lowHalf Config.axisKeyV rfl rfl rfl w, fun raw s hlegal => ?_⟩
  obtain ⟨cs, k, htable, hstep⟩ := keyStep_follows_keyTransition (a := .axis3) rfl rfl raw hlegal
  exact ⟨cs, k, htable, exec_keyv_of_keyStep_ok hstep⟩

/-- Settles O21: a DROP is well-formed exactly when its axis id is not a valid one. -/
theorem dropChangesNothing : Obligations.DropChangesNothing := by
  refine ⟨fun w axis raw => ?_, fun _ _ _ => rfl⟩
  have hword : encodeWord (.drop axis raw) = .frame (raw ++ axis ++ 0xFF#8) := rfl
  rw [decodeFrame_eq_ok_iff_of_encodeWord hword, Instr.wellFormed, Bool.not_eq_true', validAxis_eq_false_iff_four_le]

/-- Settles O23: the axis id fixes the branch of DISPATCH, which is one MOVE, KEYSTEP with its frame, or nothing. -/
theorem framesKeepToTheirAxis : Obligations.FramesKeepToTheirAxis := by
  intro w s t h
  refine ⟨fun haxis => ?moveX, fun haxis => ?moveY, fun haxis => ?keyH, fun haxis => ?keyV, fun hid => ?drop⟩
  case moveX =>
    rw [dispatch_eq, haxis] at h
    exact (Except.ok.inj h).symm
  case moveY =>
    rw [dispatch_eq, haxis] at h
    exact (Except.ok.inj h).symm
  case keyH =>
    rw [dispatch_eq, haxis] at h
    exact keyStep_frame (a := .axis2) h
  case keyV =>
    rw [dispatch_eq, haxis] at h
    exact keyStep_frame (a := .axis3) h
  case drop =>
    rw [dispatch_of_validAxis_eq_false (validAxis_eq_false_iff_four_le.mpr hid)] at h
    exact (Except.ok.inj h).symm

end Sys2Proof.Machine


/-! PROOFS. The Key-State Table beyond one KEYSTEP (43_discrete_axis.md): RELEASE_ALL against its loop (R158), the
independence of the two axes (R154), and the marks that a refused or faulting step leaves (R13, R28, R159). -/

namespace Sys2Proof.Machine

/-! ### RELEASE_ALL's loop (R158) -/

@[simp] theorem keyOf_emitAll (a : DiscreteAxis) (cs : List Command) (s : State) :
    keyOf a (emitAll cs s) = keyOf a s := by
  cases a <;> rfl

/-- A KEY register and OUT are written independently. -/
theorem emitAll_setKey (a : DiscreteAxis) (k : KeyReg) (cs : List Command) (s : State) :
    emitAll cs (setKey a k s) = setKey a k (emitAll cs s) := by
  cases a <;> rfl

theorem emitAll_append (cs ds : List Command) (s : State) : emitAll (cs ++ ds) s = emitAll ds (emitAll cs s) := by
  simp [emitAll]

theorem releaseAxis_of_keyOf {a : DiscreteAxis} {old : Symbol} {s : State} (h : keyOf a s = keyOfSymbol old) :
    releaseAxis a s = .ok (setKey a .unasserted (emitAll (keyUpOf a old) s)) := by
  rw [releaseAxis, readKey_ok_iff.mpr h]

theorem releaseAxis_of_illegal {a : DiscreteAxis} {s : State} (h : keyOf a s = .illegal) :
    releaseAxis a s = .error .keyStateIllegal := by
  rw [releaseAxis, readKey_error_iff.mpr ⟨h, rfl⟩]

/-- A turn of the loop reads and writes its own KEY register only, so an illegal register of the axis whose turn comes
second is still there, and it faults the loop whatever the first turn answers. -/
theorem releaseAxis_bind_of_illegal {a b : DiscreteAxis} {s : State} (hne : b ≠ a)
    (h : keyOf a s = .illegal ∨ keyOf b s = .illegal) :
    (releaseAxis a s).bind (releaseAxis b) = .error .keyStateIllegal := by
  by_cases hfirst : keyOf a s = .illegal
  · rw [releaseAxis_of_illegal hfirst]
    rfl
  · obtain ⟨old, hold⟩ := exists_keyOfSymbol_of_ne_illegal hfirst
    have hsecond : keyOf b (setKey a .unasserted (emitAll (keyUpOf a old) s)) = .illegal := by
      rw [keyOf_setKey, if_neg hne, keyOf_emitAll, h.resolve_left hfirst]
    rw [releaseAxis_of_keyOf hold]
    exact releaseAxis_of_illegal hsecond

/-- Two turns over legal KEY registers: both registers UNASSERTED, and the releases in the order of the turns. -/
theorem releaseAxis_bind_of_keyOf {a b : DiscreteAxis} {oldA oldB : Symbol} {s : State} (hne : b ≠ a)
    (ha : keyOf a s = keyOfSymbol oldA) (hb : keyOf b s = keyOfSymbol oldB) :
    (releaseAxis a s).bind (releaseAxis b) =
      .ok (setKey b .unasserted (setKey a .unasserted (emitAll (keyUpOf a oldA ++ keyUpOf b oldB) s))) := by
  have hsecond : keyOf b (setKey a .unasserted (emitAll (keyUpOf a oldA) s)) = keyOfSymbol oldB := by
    rw [keyOf_setKey, if_neg hne, keyOf_emitAll, hb]
  rw [releaseAxis_of_keyOf ha, emitAll_append, ← emitAll_setKey a _ (keyUpOf b oldB)]
  exact releaseAxis_of_keyOf hsecond

/-- The loop over legal KEY registers: each held key released once, in the order of the axes. -/
theorem releaseLoop_of_keys (order : TeardownOrder) {old2 old3 : Symbol} {s : State} (h2 : s.key2 = keyOfSymbol old2)
    (h3 : s.key3 = keyOfSymbol old3) :
    releaseLoop order s =
      .ok { s with
        key2 := .unasserted, key3 := .unasserted,
        out := s.out ++ arrangeReleases order (keyUpOf .axis2 old2) (keyUpOf .axis3 old3) } := by
  cases order with
  | axis2First => exact releaseAxis_bind_of_keyOf (a := .axis2) (b := .axis3) (by decide) h2 h3
  | axis3First => exact releaseAxis_bind_of_keyOf (a := .axis3) (b := .axis2) (by decide) h3 h2

/-- The loop faults on an illegal KEY register of either axis, in either order (R159). -/
theorem releaseLoop_of_illegal (order : TeardownOrder) {s : State} (h : s.key2 = .illegal ∨ s.key3 = .illegal) :
    releaseLoop order s = .error .keyStateIllegal := by
  cases order with
  | axis2First => exact releaseAxis_bind_of_illegal (a := .axis2) (b := .axis3) (by decide) h
  | axis3First => exact releaseAxis_bind_of_illegal (a := .axis3) (b := .axis2) (by decide) h.symm

/-- The form the meanings call and the pseudocode's loop agree, also where they fault. -/
theorem releaseAll_eq_releaseLoop (s : State) : releaseAll s = releaseLoop Config.teardownOrder s := by
  cases h : releaseAll s with
  | error f =>
    obtain ⟨hillegal, rfl⟩ := releaseAll_error.mp h
    exact (releaseLoop_of_illegal _ hillegal).symm
  | ok t =>
    obtain ⟨old2, old3, h2, h3, rfl⟩ := releaseAll_ok h
    exact (releaseLoop_of_keys _ h2 h3).symm

/-- The release of an axis, over the keys that KEYMAP gives it. -/
theorem keyUpOf_eq_releaseOf {a : DiscreteAxis} {p n : Byte} (hp : Config.keyMap a .positive = some p)
    (hn : Config.keyMap a .negative = some n) (sym : Symbol) :
    keyUpOf a sym = releaseOf p n (keyOfSymbol sym) := by
  cases sym <;> simp [keyUpOf, releaseOf, keyOfSymbol, hp, hn]

/-- Settles O26: the loop's two cases, with the keys of KEYMAP, and the agreement of the two forms. -/
theorem releaseAllIsItsLoop : Obligations.ReleaseAllIsItsLoop := by
  refine ⟨releaseAll_eq_releaseLoop, fun s order hlegal2 hlegal3 => ?_, fun s order => releaseLoop_of_illegal order⟩
  obtain ⟨old2, h2⟩ := exists_keyOfSymbol_of_ne_illegal hlegal2
  obtain ⟨old3, h3⟩ := exists_keyOfSymbol_of_ne_illegal hlegal3
  rw [releaseLoop_of_keys order h2 h3, keyUpOf_eq_releaseOf (a := .axis2) rfl rfl,
    keyUpOf_eq_releaseOf (a := .axis3) rfl rfl, ← h2, ← h3]
  cases order <;> rfl

/-! ### The two axes (R154) -/

/-- KEYSTEP of an axis answers the same code and commands in every state with the same KEY register of that axis. -/
theorem keyStep_agrees_of_keyOf_eq {a : DiscreteAxis} {raw : RawValue} {s s' t : State} (hsame : keyOf a s = keyOf a s')
    (h : keyStep a raw s = .ok t) :
    ∃ cs k, t = setKey a k (emitAll cs s) ∧ keyStep a raw s' = .ok (setKey a k (emitAll cs s')) ∧
      ∀ c ∈ cs, pressesOn a c = true ∨ releasesOn a c = true := by
  obtain ⟨old, hold, -⟩ := keyStep_ok h
  have hanswer := Except.ok.inj (h.symm.trans (keyStep_of_keyOf hold raw))
  exact ⟨_, _, hanswer, keyStep_of_keyOf (hsame.symm.trans hold) raw,
    fun _ => pressesOn_or_releasesOn_of_mem_keyCommands⟩

/-- What every step of a machine keeps, every run of it keeps. -/
theorem run_keeps {M : Host.Core} {P : M.State → Prop} (hstep : ∀ s t, P s → M.step s = .next t → P t) (n : Nat)
    {s t : M.State} (hs : P s) (h : M.run n s = .next t) : P t := by
  induction n generalizing s with
  | zero => exact Host.Outcome.next.inj h ▸ hs
  | succ n ih =>
    rw [Host.Core.run] at h
    split at h
    · next u hu => exact ih (hstep s u hs hu) h
    · nomatch h
    · nomatch h

theorem Reachable.run {s t : State} (hs : Reachable s) (n : Nat) (h : core.run n s = .next t) : Reachable t :=
  run_keeps (M := core) Reachable.next n hs h

/-- A session with a frame of axis 2 and a frame of axis 3, both with the value 1. -/
def pressBothAxes : List EventWord :=
  [0x400#11, 0x0FF#11, 0x002#11, 0x001#11, 0x000#11, 0x0FF#11, 0x003#11, 0x001#11, 0x000#11]

/-- The state that holds the keys 'd' and 'w' after `pressBothAxes`. -/
def bothAxesHeld : State where
  sess := .active
  phase := .scan
  buf0 := none
  buf1 := none
  key2 := .positive
  key3 := .positive
  out := [.keyDown 0x64#8, .keyDown 0x77#8]
  refused := false
  fault := false
  input := []

theorem run_pressBothAxes : core.run 9 (powerOn pressBothAxes) = .next bothAxesHeld := rfl

/-- Settles O24: KEYSTEP's commands and code are a function of its own axis's KEY register, and a run of two frames
holds a key on each axis. -/
theorem discreteAxesAreIndependent : Obligations.DiscreteAxesAreIndependent :=
  ⟨fun _ _ _ _ _ => keyStep_agrees_of_keyOf_eq,
    bothAxesHeld, (Reachable.powerOn pressBothAxes).run 9 run_pressBothAxes, rfl, rfl⟩

/-! ### The marks (R13, R28) -/

@[simp] theorem setKey_refused (a : DiscreteAxis) (k : KeyReg) (s : State) : (setKey a k s).refused = s.refused := by
  cases a <;> rfl

@[simp] theorem setKey_fault (a : DiscreteAxis) (k : KeyReg) (s : State) : (setKey a k s).fault = s.fault := by
  cases a <;> rfl

/-- `t` has the REFUSED and FAULT marks of `s`. -/
def SameMarks (s t : State) : Prop := t.refused = s.refused ∧ t.fault = s.fault

/-- A KEYSTEP that answers sets no mark. -/
theorem keyStep_sameMarks {a : DiscreteAxis} {raw : RawValue} {s t : State} (h : keyStep a raw s = .ok t) :
    SameMarks s t := by
  obtain ⟨old, rfl⟩ := keyStep_eq_ok h
  exact ⟨by simp, by simp⟩

theorem dispatch_sameMarks {w : FrameWord} {s t : State} (h : dispatch w s = .ok t) : SameMarks s t := by
  obtain ⟨-, rfl⟩ | ⟨-, rfl⟩ | ⟨-, hkey⟩ | ⟨-, hkey⟩ | ⟨-, rfl⟩ := dispatch_ok h
  · exact ⟨rfl, rfl⟩
  · exact ⟨rfl, rfl⟩
  · exact keyStep_sameMarks hkey
  · exact keyStep_sameMarks hkey
  · exact ⟨rfl, rfl⟩

/-- CAP2's rescan leaves the marks alone, so a completed frame sets none (R105). -/
theorem completeFrame_sameMarks {b : Byte} {s t : State} (h : completeFrame b s = .ok t) : SameMarks s t := by
  obtain ⟨_, _, -, -, hdispatch⟩ := completeFrame_ok h
  have hrescan : SameMarks (rescan s) t := dispatch_sameMarks hdispatch
  exact hrescan

theorem teardown_sameMarks {r : EndReason} {s t : State} (h : teardown r s = .ok t) : SameMarks s t := by
  obtain ⟨old2, old3, -, -, rfl⟩ := teardown_ok h
  exact ⟨rfl, rfl⟩

/-- An effect leaves both marks, or sets REFUSED and does nothing else, or sets FAULT and does nothing else. -/
theorem Effect.marks_cases {s t : State} {ev : EventWord} (h : Effect s ev t) :
    SameMarks s t ∨ t = { s with refused := true } ∨ t = { s with fault := true } := by
  cases h with
  | cap2 _ _ _ _ hframe => exact .inl (completeFrame_sameMarks hframe)
  | teardown _ _ _ _ hteardown => exact .inl (teardown_sameMarks hteardown)
  | refused => exact .inr (.inl rfl)
  | cap2Fault | teardownFault => exact .inr (.inr rfl)
  | sync | skip | cap0 | cap1 | idle | trunc | sessionOpen => exact .inl ⟨rfl, rfl⟩

/-- A step leaves both marks, or only sets one of them and takes its event off the port. -/
theorem step_marks_cases {s t : State} (h : step s = .next t) :
    SameMarks s t ∨ t = { s with refused := true, input := s.input.tail } ∨
      t = { s with fault := true, input := s.input.tail } := by
  obtain ⟨-, rfl⟩ | ⟨ev, rest, hinput, heffect⟩ := step_cases h
  · exact .inl ⟨rfl, rfl⟩
  · rw [hinput, List.tail_cons]
    exact heffect.marks_cases

/-- Settles O9: of the three cases of a step's marks, a newly set mark leaves only the one that sets it. -/
theorem marksAreStickyAndChangeNothingElse : Obligations.MarksAreStickyAndChangeNothingElse := by
  intro s t h
  obtain ⟨hrefused, hfault⟩ | rfl | rfl := step_marks_cases h
  · refine ⟨hrefused.trans, hfault.trans, fun hclear hset => ?_, fun hclear hset => ?_⟩
    · simp [hrefused, hclear] at hset
    · simp [hfault, hclear] at hset
  · exact ⟨fun _ => rfl, id, fun _ _ => rfl, fun hclear hset => absurd (hclear.symm.trans hset) Bool.false_ne_true⟩
  · exact ⟨id, fun _ => rfl, fun hclear hset => absurd (hclear.symm.trans hset) Bool.false_ne_true, fun _ _ => rfl⟩

end Sys2Proof.Machine


/-! PROOFS. Session control (44_session.md): what selects OPEN, CLOSE and ERROR, the one teardown of CLOSE and ERROR
(R171, R172), and everything a step can do to SESS (R177). -/

namespace Sys2Proof

/-! ### What selects a session operation -/

/-- R67 for an operation that one value of SESS admits, whatever PHASE and DATA are. -/
theorem decodeEvent_eq_iff_of_admittedIn_sess {i : Instr} {kind : BitVec 3} {data : Byte} {needed : Sess}
    (henc : encodeWord i = .event (eventWord kind data)) (hwf : i.wellFormed = true)
    (hadm : ∀ sess phase, i.admittedIn sess phase = (sess == needed)) {sess : Sess} {phase : Phase} {ev : EventWord} :
    decodeEvent sess phase ev = i ↔ sess = needed ∧ kindOf ev = kind ∧ dataOf ev = data := by
  rw [decodeEvent_eq_iff_of_encodeWord henc, eq_eventWord_iff, hadm, beq_iff_eq, and_iff_left hwf]

end Sys2Proof

namespace Sys2Proof.Machine

/-- Settles O27: OPEN's word is KIND 4, a closed session admits it in every PHASE, and its rule rescans. -/
theorem openStartsSession : Obligations.OpenStartsSession :=
  ⟨fun _ _ _ _ => decodeEvent_eq_iff_of_admittedIn_sess rfl rfl fun _ _ => rfl, fun _ _ => rfl⟩

/-! ### The teardown (R171, R172) -/

/-- The teardown over legal KEY registers: RELEASE_ALL's loop from the rescanned state, and the END after it. -/
theorem teardown_of_keysLegal (r : EndReason) {s : State} (hlegal : KeysLegal s) :
    teardown r s = .ok { s with
      sess := .closed, phase := .scan, buf0 := none, buf1 := none, key2 := .unasserted, key3 := .unasserted,
      out := s.out ++ arrangeReleases Config.teardownOrder (releaseOf 0x64#8 0x61#8 s.key2)
        (releaseOf 0x77#8 0x73#8 s.key3) ++ [.endSession r] } := by
  obtain ⟨hall, hloop, -⟩ := releaseAllIsItsLoop
  obtain ⟨hlegal2, hlegal3⟩ := hlegal
  rw [teardown, hall, hloop (rescan s) Config.teardownOrder hlegal2 hlegal3]
  rfl

/-- Settles O28: CLOSE's rule is the teardown, with the reason CLOSED. -/
theorem closeTearsDownSession : Obligations.CloseTearsDownSession :=
  ⟨fun _ _ _ _ => decodeEvent_eq_iff_of_admittedIn_sess rfl rfl fun _ _ => rfl,
    fun _ _ hlegal2 hlegal3 =>
      congrArg Host.Outcome.next (atomically_ok (teardown_of_keysLegal .closed ⟨hlegal2, hlegal3⟩))⟩

/-- Settles O29: ERROR's rule is the same teardown, with the reason ERROR. -/
theorem errorTearsDownSession : Obligations.ErrorTearsDownSession :=
  ⟨fun _ _ _ _ => decodeEvent_eq_iff_of_admittedIn_sess rfl rfl fun _ _ => rfl,
    fun _ _ hlegal2 hlegal3 =>
      congrArg Host.Outcome.next (atomically_ok (teardown_of_keysLegal .error ⟨hlegal2, hlegal3⟩))⟩

/-! ### SESS across a step (R177) -/

@[simp] theorem setKey_sess (a : DiscreteAxis) (k : KeyReg) (s : State) : (setKey a k s).sess = s.sess := by
  cases a <;> rfl

theorem keyStep_sess {a : DiscreteAxis} {raw : RawValue} {s t : State} (h : keyStep a raw s = .ok t) :
    t.sess = s.sess := by
  obtain ⟨old, rfl⟩ := keyStep_eq_ok h
  simp

theorem dispatch_sess {w : FrameWord} {s t : State} (h : dispatch w s = .ok t) : t.sess = s.sess := by
  obtain ⟨-, rfl⟩ | ⟨-, rfl⟩ | ⟨-, hkey⟩ | ⟨-, hkey⟩ | ⟨-, rfl⟩ := dispatch_ok h
  · rfl
  · rfl
  · exact keyStep_sess hkey
  · exact keyStep_sess hkey
  · rfl

theorem completeFrame_sess {b : Byte} {s t : State} (h : completeFrame b s = .ok t) : t.sess = s.sess := by
  obtain ⟨_, _, -, -, hdispatch⟩ := completeFrame_ok h
  exact (dispatch_sess hdispatch).trans (rescan_sess s)

theorem teardown_sess {r : EndReason} {s t : State} (h : teardown r s = .ok t) : t.sess = .closed := by
  obtain ⟨_, _, -, -, rfl⟩ := teardown_ok h
  rfl

/-- An event of kind CLOSE or ERROR can end a session and an OPEN can start one; every other effect keeps SESS. -/
theorem Effect.sess_cases {s t : State} {ev : EventWord} (h : Effect s ev t) :
    t.sess = s.sess ∨
    (s.sess = .active ∧ t.sess = .closed ∧ (kindOf ev = 2#3 ∨ kindOf ev = 3#3)) ∨
    (s.sess = .closed ∧ t.sess = .active ∧ kindOf ev = 4#3) := by
  cases h with
  | cap2 _ _ _ _ hframe => exact .inl (completeFrame_sess hframe)
  | teardown r _ hactive hkind hteardown =>
    refine .inr (.inl ⟨hactive, teardown_sess hteardown, ?_⟩)
    cases r with
    | closed => exact .inl hkind
    | error => exact .inr hkind
  | sessionOpen hclosed hkind => exact .inr (.inr ⟨hclosed, rfl, hkind⟩)
  | sync | skip | cap0 | cap1 | cap2Fault | idle | trunc | teardownFault | refused => exact .inl rfl

/-- A step that ends a session takes an event of kind CLOSE or ERROR. -/
theorem step_ends_session {s t : State} (h : step s = .next t) (hactive : s.sess = .active)
    (hclosed : t.sess = .closed) : ∃ ev rest, s.input = ev :: rest ∧ (kindOf ev = 2#3 ∨ kindOf ev = 3#3) := by
  have hchanges : t.sess ≠ s.sess := by simp [hactive, hclosed]
  obtain ⟨-, rfl⟩ | ⟨ev, rest, hinput, heffect⟩ := step_cases h
  · exact absurd rfl hchanges
  · obtain hkeeps | ⟨-, -, hkind⟩ | ⟨-, hopened, -⟩ := heffect.sess_cases
    · exact absurd hkeeps hchanges
    · exact ⟨ev, rest, hinput, hkind⟩
    · exact absurd (hopened.trans hactive.symm) hchanges

/-- SKIP, IDLE and DROP answer the state itself, and TRUNC the rescanned state. -/
theorem silent_exec_eq {b data axis : Byte} {raw : RawValue} {s t : State}
    (h : exec (.skip b) s = .next t ∨ exec (.idle data) s = .next t ∨ exec (.trunc data) s = .next t ∨
      exec (.drop axis raw) s = .next t) : t = s ∨ t = rescan s := by
  obtain hskip | hidle | htrunc | hdrop := h
  · exact .inl (Host.Outcome.next.inj hskip).symm
  · exact .inl (Host.Outcome.next.inj hidle).symm
  · exact .inr (Host.Outcome.next.inj htrunc).symm
  · exact .inl (Host.Outcome.next.inj hdrop).symm

/-- A step runs the operation that SESS, PHASE and the first event select, on the state without that event (R67). -/
theorem step_of_input {s : State} {ev : EventWord} {rest : List EventWord} (h : s.input = ev :: rest) :
    step s = exec (decodeEvent s.sess s.phase ev) { s with input := rest } := by
  rw [step, nextEvent_eq_some.mpr ⟨rest, h, rfl⟩]

/-- With no session open, an event of kind OPEN starts one. -/
theorem step_starts_session {s : State} {ev : EventWord} {rest : List EventWord} (hclosed : s.sess = .closed)
    (hinput : s.input = ev :: rest) (hkind : kindOf ev = 4#3) : ∃ t, step s = .next t ∧ t.sess = .active := by
  obtain ⟨hselect, hexec⟩ := openStartsSession
  rw [step_of_input hinput, (hselect s.sess s.phase ev _).mpr ⟨hclosed, hkind, rfl⟩, hexec]
  exact ⟨_, rfl, rfl⟩

/-- Settles O31: the cases of SESS across a step, the states the four silent operations answer, and OPEN's rule. -/
theorem onlyCloseAndErrorEndSession : Obligations.OnlyCloseAndErrorEndSession := by
  refine ⟨fun _ _ => step_ends_session, fun b data axis raw s t h => ?_, fun _ _ _ => step_starts_session⟩
  obtain rfl | rfl := silent_exec_eq h
  · exact ⟨rfl, rfl, rfl, rfl⟩
  · exact ⟨rescan_sess s, rescan_out s, rescan_refused s, rescan_fault s⟩

end Sys2Proof.Machine


/-! PROOFS. Reset and hazards (70_reset_and_hazards.md): nothing of one session survives into the next (R223). -/

namespace Sys2Proof.Machine

/-- Settles O30: the state that R170 gives reads only the fields on which the two agree. -/
theorem openForgetsEarlierSession : Obligations.OpenForgetsEarlierSession := by
  intro data s s' hout hrefused hfault hinput
  obtain ⟨-, hexec⟩ := openStartsSession
  rw [hexec, hexec, hout, hrefused, hfault, hinput]

end Sys2Proof.Machine


/-! PROOFS. The byte form of the two words (30_encoding.md sections 5 and 6; log entry 9): decoding and encoding are
inverse to each other, for an event word by R67's selection and for a frame by R68's. -/

namespace Sys2Proof

/-! ### Event words and frame words as bytes -/

/-- The two bytes of an event word: DATA, then KIND below five zero bits. -/
theorem portBytes_event (ev : EventWord) : portBytes (.event ev) = [dataOf ev, (kindOf ev).zeroExtend 8] := rfl

/-- The four bytes of a frame word are its fields in wire order (R60). -/
theorem portBytes_frame_append (c0 c1 c2 c3 : Byte) :
    portBytes (.frame (c3 ++ c2 ++ c1 ++ c0)) = [c0, c1, c2, c3] := by
  have h0 := c0.isLt
  have h1 := c1.isLt
  have h2 := c2.isLt
  have h3 := c3.isLt
  simp only [portBytes, List.cons.injEq, and_true, ← BitVec.toNat_inj, extract_toNat, toNat_append_add]
  omega

/-- A frame word is its four bytes, the last one highest (R60). -/
theorem frame_eq_append_of_bytes (w : FrameWord) :
    w.extractLsb' 24 8 ++ w.extractLsb' 16 8 ++ w.extractLsb' 8 8 ++ w.extractLsb' 0 8 = w := by
  have hw := w.isLt
  apply BitVec.eq_of_toNat_eq
  simp only [toNat_append_add, extract_toNat]
  omega

/-- The high byte of an event word holds KIND in its low three bits and zero above them. -/
theorem kindByte_eq_iff {b : Byte} {kind : BitVec 3} :
    b = kind.zeroExtend 8 ↔ b.extractLsb' 3 5 = 0#5 ∧ b.extractLsb' 0 3 = kind := by
  have hb := b.isLt
  have hkind := kind.isLt
  simp only [← BitVec.toNat_inj, extract_toNat, BitVec.toNat_setWidth, BitVec.toNat_ofNat]
  omega

theorem decodeBytes_event (sess : Sess) (phase : Phase) (ev : EventWord) :
    decodeBytes sess phase (portBytes (.event ev)) = .ok (decodeEvent sess phase ev) := by
  obtain ⟨hzero, hkind⟩ := kindByte_eq_iff.mp (Eq.refl ((kindOf ev).zeroExtend 8))
  rw [portBytes_event, decodeBytes, if_pos hzero, hkind]
  exact congrArg (fun word => Except.ok (decodeEvent sess phase word)) (eventWord_fields ev)

theorem decodeBytes_frame (sess : Sess) (phase : Phase) (w : FrameWord) :
    decodeBytes sess phase (portBytes (.frame w)) = decodeFrame w :=
  congrArg decodeFrame (frame_eq_append_of_bytes w)

/-- The decoder accepts the bytes of an event word, and the bytes of a frame word that it decodes, and no others. -/
theorem decodeBytes_ok {sess : Sess} {phase : Phase} {bytes : List Byte} {i : Instr}
    (h : decodeBytes sess phase bytes = .ok i) :
    (∃ ev, bytes = portBytes (.event ev) ∧ decodeEvent sess phase ev = i) ∨
    (∃ w, bytes = portBytes (.frame w) ∧ decodeFrame w = .ok i) := by
  unfold decodeBytes at h
  split at h
  next b0 b1 =>
    split at h
    next hzero =>
      refine .inl ⟨eventWord (b1.extractLsb' 0 3) b0, ?_, Except.ok.inj h⟩
      rw [portBytes_event, dataOf_eventWord, kindOf_eventWord, ← kindByte_eq_iff.mpr ⟨hzero, rfl⟩]
    next => nomatch h
  next c0 c1 c2 c3 => exact .inr ⟨_, (portBytes_frame_append c0 c1 c2 c3).symm, h⟩
  next => nomatch h

/-! ### Decoding and encoding are inverse -/

/-- Settles O40: an operation's word is an event word, which selects it in SESS and PHASE, or a frame word. -/
theorem decodeOfEncode : Obligations.DecodeOfEncode := by
  intro i sess phase hwf hadm
  rw [encode]
  cases hword : encodeWord i with
  | event ev => rw [decodeBytes_event, (SelectedBy.mk hwf hadm hword).decodeEvent_eq]
  | frame w => rw [decodeBytes_frame, decodeFrame_eq_ok_iff.mpr ⟨hwf, hword⟩]

/-- Settles O41: what the decoder reads from a word has that word, by R67 and by R68. -/
theorem encodeOfDecode : Obligations.EncodeOfDecode := by
  intro sess phase bytes i h
  obtain ⟨ev, rfl, hdecode⟩ | ⟨w, rfl, hdecode⟩ := decodeBytes_ok h
  · obtain ⟨hwf, hadm, hword⟩ := decodeEvent_eq_iff.mp hdecode
    exact ⟨congrArg portBytes hword, hwf, fun _ => hadm⟩
  · obtain ⟨hwf, hword⟩ := decodeFrame_eq_ok_iff.mp hdecode
    exact ⟨congrArg portBytes hword, hwf, fun hlength => nomatch hlength⟩

end Sys2Proof


/-! PROOFS. The registers across a step (10_state.md section 3, R30, R35, R105, R108): what a completed frame leaves of
them, where a rule cannot fault, and the invariants of R35. -/

namespace Sys2Proof.Machine

/-! ### What a frame operation leaves unchanged -/

/-- A KEYSTEP that answers writes only KEY registers and OUT. -/
theorem keyStep_writes_keys_and_out {a : DiscreteAxis} {raw : RawValue} {s t : State}
    (h : keyStep a raw s = .ok t) : t = { s with key2 := t.key2, key3 := t.key3, out := t.out } := by
  obtain ⟨old, rfl⟩ := keyStep_eq_ok h
  cases a <;> rfl

/-- DISPATCH writes only KEY registers and OUT (R130, R136). -/
theorem dispatch_writes_keys_and_out {w : FrameWord} {s t : State} (h : dispatch w s = .ok t) :
    t = { s with key2 := t.key2, key3 := t.key3, out := t.out } := by
  obtain ⟨-, rfl⟩ | ⟨-, rfl⟩ | ⟨-, hkey⟩ | ⟨-, hkey⟩ | ⟨-, rfl⟩ := dispatch_ok h
  · rfl
  · rfl
  · exact keyStep_writes_keys_and_out hkey
  · exact keyStep_writes_keys_and_out hkey
  · rfl

/-- A completed frame leaves SCAN and empty buffers, and writes nothing else but KEY registers and OUT (R105). -/
theorem completeFrame_writes_keys_and_out {b : Byte} {s t : State} (h : completeFrame b s = .ok t) :
    t = { rescan s with key2 := t.key2, key3 := t.key3, out := t.out } := by
  obtain ⟨_, _, -, -, hdispatch⟩ := completeFrame_ok h
  exact dispatch_writes_keys_and_out hdispatch

theorem completeFrame_restarts {b : Byte} {s t : State} (h : completeFrame b s = .ok t) :
    t.phase = .scan ∧ t.buf0 = none ∧ t.buf1 = none := by
  rw [completeFrame_writes_keys_and_out h]
  exact ⟨rfl, rfl, rfl⟩

/-! ### Where a rule cannot fault -/

theorem keyStep_isOk {a : DiscreteAxis} {s : State} (hlegal : keyOf a s ≠ .illegal) (raw : RawValue) :
    ∃ t, keyStep a raw s = .ok t := by
  obtain ⟨old, hold⟩ := exists_keyOfSymbol_of_ne_illegal hlegal
  exact ⟨_, keyStep_of_keyOf hold raw⟩

/-- DISPATCH answers a state unless it reads an illegal KEY register, that of the frame's own axis (R159). -/
theorem dispatch_isOk {w : FrameWord} {s : State} (h2 : frameAxis w = Config.axisKeyH → s.key2 ≠ .illegal)
    (h3 : frameAxis w = Config.axisKeyV → s.key3 ≠ .illegal) : ∃ t, dispatch w s = .ok t := by
  rw [dispatch_eq]
  split_ifs with hx hy hh hv
  · exact ⟨_, rfl⟩
  · exact ⟨_, rfl⟩
  · exact keyStep_isOk (a := .axis2) (h2 hh) _
  · exact keyStep_isOk (a := .axis3) (h3 hv) _
  · exact ⟨_, rfl⟩

/-- CAP2 over buffers that hold the axis id and the low byte is the DISPATCH of the frame (R105). -/
theorem completeFrame_of_bufs {s : State} {p0 p1 : Byte} (h0 : s.buf0 = some p0) (h1 : s.buf1 = some p1) (b : Byte) :
    completeFrame b s = dispatch (packFrame b p1 p0) (rescan s) := by
  rw [completeFrame, h0, h1]

/-- CAP2 over an empty buffer faults (R105). -/
theorem completeFrame_of_empty {s : State} (h : s.buf0 = none ∨ s.buf1 = none) (b : Byte) :
    completeFrame b s = .error .payloadBufferEmpty := by
  unfold completeFrame
  split
  next h0 h1 => simp [h0, h1] at h
  next => rfl

theorem RegistersFit.keysLegal {s : State} (h : RegistersFit s) : KeysLegal s := by
  obtain ⟨-, -, hlegal, -⟩ := h
  exact hlegal

/-- In PAY2 both buffers hold a byte and the KEY registers are legal, so CAP2 answers a state (R35). -/
theorem completeFrame_isOk {s : State} (hfit : RegistersFit s) (hphase : s.phase = .pay2) (b : Byte) :
    ∃ t, completeFrame b s = .ok t := by
  obtain ⟨hbuf0, hbuf1, ⟨hlegal2, hlegal3⟩, -⟩ := hfit
  obtain ⟨p0, h0⟩ := Option.isSome_iff_exists.mp (hbuf0.mpr (.inr hphase))
  obtain ⟨p1, h1⟩ := Option.isSome_iff_exists.mp (hbuf1.mpr hphase)
  rw [completeFrame_of_bufs h0 h1]
  exact dispatch_isOk (fun _ => hlegal2) (fun _ => hlegal3)

/-- A teardown over legal KEY registers does not fault (R159). -/
theorem KeysLegal.teardown_ne_error {s : State} (h : KeysLegal s) (r : EndReason) (f : Fault) :
    teardown r s ≠ .error f := by
  intro herror
  obtain ⟨hlegal2, hlegal3⟩ := h
  obtain ⟨h2 | h3, -⟩ := teardown_error.mp herror
  · exact hlegal2 h2
  · exact hlegal3 h3

/-! ### The invariants of R35 -/

/-- KEYSTEP stores a symbol's code, which is legal, and leaves the other register (R153). -/
theorem keyStep_keysLegal {a : DiscreteAxis} {raw : RawValue} {s t : State} (h : keyStep a raw s = .ok t)
    (hlegal : KeysLegal s) : KeysLegal t := by
  obtain ⟨old, rfl⟩ := keyStep_eq_ok h
  obtain ⟨hlegal2, hlegal3⟩ := hlegal
  cases a with
  | axis2 => exact ⟨keyOfSymbol_ne_illegal _, hlegal3⟩
  | axis3 => exact ⟨hlegal2, keyOfSymbol_ne_illegal _⟩

theorem dispatch_keysLegal {w : FrameWord} {s t : State} (h : dispatch w s = .ok t) (hlegal : KeysLegal s) :
    KeysLegal t := by
  obtain ⟨-, rfl⟩ | ⟨-, rfl⟩ | ⟨-, hkey⟩ | ⟨-, hkey⟩ | ⟨-, rfl⟩ := dispatch_ok h
  · exact hlegal
  · exact hlegal
  · exact keyStep_keysLegal hkey hlegal
  · exact keyStep_keysLegal hkey hlegal
  · exact hlegal

theorem completeFrame_keysLegal {b : Byte} {s t : State} (h : completeFrame b s = .ok t) (hlegal : KeysLegal s) :
    KeysLegal t := by
  obtain ⟨_, _, -, -, hdispatch⟩ := completeFrame_ok h
  exact dispatch_keysLegal hdispatch hlegal

/-- In an open session R35 asks only for the buffers of PHASE and for legal KEY registers. -/
theorem registersFit_of_active {s : State} (hactive : s.sess = .active) (hbuf0 : Buf0Fits s) (hbuf1 : Buf1Fits s)
    (hlegal : KeysLegal s) : RegistersFit s :=
  ⟨hbuf0, hbuf1, hlegal, fun hclosed => nomatch hactive.symm.trans hclosed⟩

/-- The decoder's session-start state has the buffers that SCAN asks for. -/
theorem registersFit_of_restarted {s : State} (hactive : s.sess = .active)
    (hstart : s.phase = .scan ∧ s.buf0 = none ∧ s.buf1 = none) (hlegal : KeysLegal s) : RegistersFit s := by
  obtain ⟨hphase, hbuf0, hbuf1⟩ := hstart
  exact registersFit_of_active hactive (by simp [Buf0Fits, hphase, hbuf0]) (by simp [Buf1Fits, hphase, hbuf1]) hlegal

/-- A teardown leaves the registers of a closed session. -/
theorem teardown_registersFit {r : EndReason} {s t : State} (h : teardown r s = .ok t) : RegistersFit t := by
  obtain ⟨_, _, -, -, rfl⟩ := teardown_ok h
  exact ⟨by simp [Buf0Fits], by simp [Buf1Fits], ⟨nofun, nofun⟩, fun _ => ⟨rfl, rfl, rfl, rfl, rfl⟩⟩

theorem Effect.keeps_registersFit {s t : State} {ev : EventWord} (h : Effect s ev t) (hfit : RegistersFit s) :
    RegistersFit t ∧ t.fault = s.fault := by
  have hlegal := hfit.keysLegal
  have ⟨hbuf0, hbuf1, _, _⟩ := hfit
  cases h with
  | sync hactive hphase =>
    exact ⟨registersFit_of_active hactive (by simpa [Buf0Fits, hphase] using hbuf0)
      (by simpa [Buf1Fits, hphase] using hbuf1) hlegal, rfl⟩
  | cap0 hactive hphase =>
    exact ⟨registersFit_of_active hactive (by simp [Buf0Fits]) (by simpa [Buf1Fits, hphase] using hbuf1) hlegal, rfl⟩
  | cap1 hactive hphase =>
    exact ⟨registersFit_of_active hactive (by simpa [Buf0Fits, hphase] using hbuf0) (by simp [Buf1Fits]) hlegal, rfl⟩
  | cap2 _ hactive _ _ hframe =>
    obtain ⟨-, hfault⟩ := completeFrame_sameMarks hframe
    exact ⟨registersFit_of_restarted ((completeFrame_sess hframe).trans hactive) (completeFrame_restarts hframe)
      (completeFrame_keysLegal hframe hlegal), hfault⟩
  | cap2Fault _ _ hphase _ herror =>
    obtain ⟨t, hok⟩ := completeFrame_isOk hfit hphase (dataOf ev)
    nomatch hok.symm.trans herror
  | trunc hactive => exact ⟨registersFit_of_restarted hactive ⟨rfl, rfl, rfl⟩ hlegal, rfl⟩
  | teardown _ _ _ _ hteardown =>
    obtain ⟨-, hfault⟩ := teardown_sameMarks hteardown
    exact ⟨teardown_registersFit hteardown, hfault⟩
  | teardownFault r f _ _ herror => exact absurd herror (hlegal.teardown_ne_error r f)
  | sessionOpen => exact ⟨registersFit_of_restarted rfl ⟨rfl, rfl, rfl⟩ ⟨nofun, nofun⟩, rfl⟩
  | skip | idle | refused => exact ⟨hfit, rfl⟩

/-- Settles O52: no field of R35 is the port, and every effect of a step keeps the invariants. -/
theorem stepKeepsRegistersFit : Obligations.StepKeepsRegistersFit := by
  intro s t hfit h
  obtain ⟨-, rfl⟩ | ⟨ev, rest, -, heffect⟩ := step_cases h
  · exact ⟨hfit, rfl⟩
  · exact heffect.keeps_registersFit hfit

/-! ### PHASE (R30, R108) -/

/-- Settles O46: CAP2, TRUNC, the teardowns and OPEN return to SCAN, and SYNC, CAP0 and CAP1 advance. -/
theorem phaseOnlyAdvancesOrReturns : Obligations.PhaseOnlyAdvancesOrReturns := by
  intro s t h
  obtain ⟨-, rfl⟩ | ⟨ev, rest, -, heffect⟩ := step_cases h
  · exact .inl rfl
  cases heffect with
  | sync _ hphase => exact .inr (.inr (.inl ⟨hphase, rfl⟩))
  | cap0 _ hphase => exact .inr (.inr (.inr (.inl ⟨hphase, rfl⟩)))
  | cap1 _ hphase => exact .inr (.inr (.inr (.inr ⟨hphase, rfl⟩)))
  | cap2 _ _ _ _ hframe => exact .inr (.inl (completeFrame_restarts hframe).1)
  | teardown _ _ _ _ hteardown =>
    obtain ⟨_, _, -, -, rfl⟩ := teardown_ok hteardown
    exact .inr (.inl rfl)
  | trunc | sessionOpen => exact .inr (.inl rfl)
  | skip | cap2Fault | idle | teardownFault | refused => exact .inl rfl

/-! ### CAP2 (R105) -/

theorem exec_cap2_of_completeFrame_ok {b : Byte} {s t : State} (h : completeFrame b s = .ok t) :
    exec (.cap2 b) s = .next t := congrArg Host.Outcome.next (atomically_ok h)

/-- The operation that an axis id selects runs the DISPATCH of its frame, as one atomic step (R68, R130). -/
theorem exec_decodeAxis (axis : Byte) (raw : RawValue) (s : State) :
    exec (decodeAxis axis raw) s = .next (atomically s (dispatch (frameWord axis raw))) := by
  simp only [atomically, dispatch_eq, frameAxis_frameWord, frameRaw_frameWord, decodeAxis]
  split_ifs with hx hy hh hv
  · rfl
  · rfl
  · rfl
  · rfl
  · rfl

theorem exec_decodeAxis_of_dispatch_ok {axis : Byte} {raw : RawValue} {s t : State}
    (h : dispatch (frameWord axis raw) s = .ok t) : exec (decodeAxis axis raw) s = .next t := by
  rw [exec_decodeAxis, atomically_ok h]

/-- What selects CAP2: a BYTE in PAY2 of an open session (R67). -/
theorem decodeEvent_eq_cap2_iff {sess : Sess} {phase : Phase} {ev : EventWord} {b : Byte} :
    decodeEvent sess phase ev = .cap2 b ↔ sess = .active ∧ phase = .pay2 ∧ kindOf ev = 0#3 ∧ dataOf ev = b := by
  have hword : encodeWord (.cap2 b) = .event (eventWord 0#3 b) := rfl
  rw [decodeEvent_eq_iff_of_encodeWord hword, eq_eventWord_iff]
  simp [Instr.wellFormed, Instr.admittedIn, and_assoc]

/-- Settles O14: CAP2's rule and the frame's operation are the same DISPATCH from the rescanned state, which the legal
KEY register of its axis keeps from faulting. -/
theorem cap2CompletesFrame : Obligations.Cap2CompletesFrame := by
  refine ⟨fun _ _ _ _ => decodeEvent_eq_cap2_iff, fun s b p0 p1 h0 h1 hlegal2 hlegal3 => ?frame, fun s b hempty => ?_⟩
  case frame =>
    have hword : packFrame b p1 p0 = frameWord p0 (b ++ p1) := packFrame_eq_frameWord b p1 p0
    obtain ⟨t, hdispatch⟩ : ∃ t, dispatch (packFrame b p1 p0) (rescan s) = .ok t := by
      apply dispatch_isOk <;> rw [frameAxis_packFrame]
      · exact hlegal2
      · exact hlegal3
    have hframe : completeFrame b s = .ok t := (completeFrame_of_bufs h0 h1 b).trans hdispatch
    obtain ⟨hphase, hbuf0, hbuf1⟩ := completeFrame_restarts hframe
    obtain ⟨hrefused, hfault⟩ := completeFrame_sameMarks hframe
    have hinput : t.input = s.input := by rw [completeFrame_writes_keys_and_out hframe]; rfl
    refine ⟨decodeAxis p0 (b ++ p1), t, ?_, exec_cap2_of_completeFrame_ok hframe,
      exec_decodeAxis_of_dispatch_ok (hword ▸ hdispatch), hphase, hbuf0, hbuf1, completeFrame_sess hframe, hrefused,
      hfault, hinput⟩
    exact (congrArg decodeFrame hword).trans (decodeFrame_frameWord p0 (b ++ p1))
  · exact congrArg Host.Outcome.next (atomically_error (completeFrame_of_empty hempty b))

/-- Settles O49: a BYTE in PAY2 selects CAP2, which the invariants keep from faulting, and a TIMEOUT out of SCAN
selects TRUNC; both rules rescan. -/
theorem decoderRestarts : Obligations.DecoderRestarts := by
  intro s t ev rest hfit hactive hinput hevent h
  rw [step_of_input hinput] at h
  obtain ⟨hphase, hkind⟩ | ⟨hphase, hkind⟩ := hevent
  · obtain ⟨u, hframe⟩ := completeFrame_isOk (s := { s with input := rest }) hfit hphase (dataOf ev)
    rw [decodeEvent_eq_cap2_iff.mpr ⟨hactive, hphase, hkind, rfl⟩, exec_cap2_of_completeFrame_ok hframe] at h
    obtain rfl := Host.Outcome.next.inj h
    exact ⟨(completeFrame_sess hframe).trans hactive, completeFrame_restarts hframe⟩
  · obtain ⟨hselect, hexec⟩ := truncDiscardsPayload
    rw [(hselect s.sess s.phase ev _).mpr ⟨hactive, hphase, hkind, rfl⟩, hexec] at h
    obtain rfl := Host.Outcome.next.inj h
    exact ⟨hactive, rfl, rfl, rfl⟩

end Sys2Proof.Machine


/-! PROOFS. The operand forms: the value codec (41_value_codec.md, R120, R121), symbols and keys (R150 to R152), and the
output command words (R65). -/

namespace Sys2Proof.Machine

/-! ### Values (R120, R121) -/

/-- The two value bytes of a frame, the low one first, as a number. -/
theorem value_toNat (p2 p1 : Byte) : (p2 ++ p1 : RawValue).toNat = p2.toNat * 256 + p1.toNat := toNat_append_add p2 p1

/-- R121: the value is the number less 65536 from a second byte of 0x80 on. -/
theorem sext16_append (p2 p1 : Byte) :
    sext16 (p2 ++ p1) = (if p2.toNat < 0x80 then (p1.toNat : Int) + 256 * p2.toNat
      else (p1.toNat : Int) + 256 * p2.toNat - 65536) := by
  have hp1 := p1.isLt
  rw [sext16_eq_toInt, BitVec.toInt_eq_toNat_cond, value_toNat]
  split_ifs <;> omega

/-- Settles O33: the bounds and the sign are those of the arithmetic form over two bytes. -/
theorem valueIsLittleEndianTwosComplement : Obligations.ValueIsLittleEndianTwosComplement := by
  intro p0 p1 p2
  have hfields : decodeFrameWord (packFrame p2 p1 p0) = (p0, p2 ++ p1) :=
    Prod.ext (frameAxis_packFrame p2 p1 p0) (frameRaw_packFrame p2 p1 p0)
  have hp1 := p1.isLt
  have hp2 := p2.isLt
  refine ⟨hfields, sext16_append p2 p1, ?_⟩
  simp only [sext16_append, ← BitVec.toNat_inj, BitVec.toNat_ofNat]
  split_ifs <;> omega

/-! ### Symbols and keys (R150 to R152) -/

theorem keyCode_keyOfSymbol (sym : Symbol) : keyCode (keyOfSymbol sym) = symbolCode sym := by
  cases sym <;> rfl

theorem symbolCode_injective : Function.Injective symbolCode := by
  intro x y
  cases x <;> cases y <;> simp [symbolCode]

/-- Settles O34: SYMBOL's two tests are the sign of the value. -/
theorem symbolIsTheSign : Obligations.SymbolIsTheSign := by
  refine ⟨fun v => ?_, symbolOfRaw_eq, keyCode_keyOfSymbol, rfl, rfl, rfl⟩
  unfold symbolOf
  split_ifs with hpos hneg
  · simp [hpos, hpos.ne', hpos.not_gt]
  · simp [hneg, hneg.ne, hneg.not_gt]
  · have hzero : v = 0 := by omega
    simp [hzero]

/-- The axis and the symbol of a key code (R151, read backwards). -/
def keyOwner (k : Byte) : Option (DiscreteAxis × Symbol) :=
  if k = Config.keyD then some (.axis2, .positive)
  else if k = Config.keyA then some (.axis2, .negative)
  else if k = Config.keyW then some (.axis3, .positive)
  else if k = Config.keyS then some (.axis3, .negative)
  else none

theorem keyOwner_of_keyMap {a : DiscreteAxis} {sym : Symbol} {k : Byte} (h : Config.keyMap a sym = some k) :
    keyOwner k = some (a, sym) := by
  cases sym with
  | neutral => simp at h
  | positive | negative => cases a <;> cases h <;> decide

/-- No two axes and no two symbols share a key (R151). -/
theorem keyMap_owner_unique {a b : DiscreteAxis} {x y : Symbol} {k : Byte} (hx : Config.keyMap a x = some k)
    (hy : Config.keyMap b y = some k) : a = b ∧ x = y :=
  Prod.ext_iff.mp (Option.some.inj ((keyOwner_of_keyMap hx).symm.trans (keyOwner_of_keyMap hy)))

theorem keyMap_eq_none_iff {a : DiscreteAxis} {sym : Symbol} : Config.keyMap a sym = none ↔ sym = .neutral := by
  cases a <;> cases sym <;> simp [Config.keyMap]

theorem keyMap_injective (a : DiscreteAxis) : Function.Injective (Config.keyMap a) := by
  intro x y hxy
  cases hx : Config.keyMap a x with
  | none => exact (keyMap_eq_none_iff.mp hx).trans (keyMap_eq_none_iff.mp (hxy.symm.trans hx)).symm
  | some k => exact (keyMap_owner_unique hx (hxy.symm.trans hx)).2

@[simp] theorem assertedKey_keyOfSymbol (a : DiscreteAxis) (sym : Symbol) :
    assertedKey a (keyOfSymbol sym) = Config.keyMap a sym := by
  simp [assertedKey]

/-- Settles O35: a legal KEY register asserts the key of the symbol it stores, so keys and codes both compare
symbols. -/
theorem keyMapIsOneToOne : Obligations.KeyMapIsOneToOne := by
  refine ⟨rfl, rfl, rfl, rfl, keyMap_neutral, fun a _ _ => @keyMap_injective a _ _, fun a sym k hlegal => ?_⟩
  obtain ⟨stored, rfl⟩ := exists_keyOfSymbol_of_ne_illegal hlegal
  rw [assertedKey_keyOfSymbol, keyCode_keyOfSymbol, (keyMap_injective a).eq_iff, symbolCode_injective.eq_iff]

/-! ### Command words (R65) -/

/-- CKIND, bits 33:32 (R65). -/
def commandKind (w : CommandWord) : BitVec 2 := w.extractLsb' 32 2

theorem commandKind_append (kind : BitVec 2) (arg : BitVec 32) : commandKind (kind ++ arg) = kind :=
  BitVec.extractLsb'_append_eq_left

/-- A field of ARG does not see CKIND (R65). -/
theorem commandArg_append {lo n : Nat} (h : lo + n ≤ 32) (kind : BitVec 2) (arg : BitVec 32) :
    (kind ++ arg).extractLsb' lo n = arg.extractLsb' lo n := BitVec.extractLsb'_append_eq_of_add_le h

theorem move_fields (dx dy : RawValue) :
    commandKind (commandWord (.move dx dy)) = 0#2 ∧ (commandWord (.move dx dy)).extractLsb' 0 16 = dx ∧
      (commandWord (.move dx dy)).extractLsb' 16 16 = dy :=
  ⟨commandKind_append _ _, (commandArg_append (by decide) _ _).trans BitVec.extractLsb'_append_eq_right,
    (commandArg_append (by decide) _ _).trans BitVec.extractLsb'_append_eq_left⟩

/-- The fields of a key command's word, for either CKIND. -/
theorem key_fields (kind : BitVec 2) (k : Byte) :
    commandKind (kind ++ (0#24 ++ k)) = kind ∧ (kind ++ (0#24 ++ k)).extractLsb' 0 8 = k ∧
      (kind ++ (0#24 ++ k)).extractLsb' 8 24 = 0#24 :=
  ⟨commandKind_append _ _, (commandArg_append (by decide) _ _).trans BitVec.extractLsb'_append_eq_right,
    (commandArg_append (by decide) _ _).trans BitVec.extractLsb'_append_eq_left⟩

theorem keyDown_fields (k : Byte) :
    commandKind (commandWord (.keyDown k)) = 1#2 ∧ (commandWord (.keyDown k)).extractLsb' 0 8 = k ∧
      (commandWord (.keyDown k)).extractLsb' 8 24 = 0#24 := key_fields 1#2 k

theorem keyUp_fields (k : Byte) :
    commandKind (commandWord (.keyUp k)) = 2#2 ∧ (commandWord (.keyUp k)).extractLsb' 0 8 = k ∧
      (commandWord (.keyUp k)).extractLsb' 8 24 = 0#24 := key_fields 2#2 k

/-- The command of a word, read from its fields. -/
def commandOfWord (w : CommandWord) : Command :=
  if commandKind w = 0#2 then .move (w.extractLsb' 0 16) (w.extractLsb' 16 16)
  else if commandKind w = 1#2 then .keyDown (w.extractLsb' 0 8)
  else if commandKind w = 2#2 then .keyUp (w.extractLsb' 0 8)
  else if w = commandWord (.endSession .closed) then .endSession .closed
  else .endSession .error

/-- The fields of a word give its command back. -/
theorem commandOfWord_commandWord : Function.LeftInverse commandOfWord commandWord := by
  intro c
  unfold commandOfWord
  cases c with
  | move dx dy =>
    obtain ⟨hkind, hdx, hdy⟩ := move_fields dx dy
    rw [if_pos hkind, hdx, hdy]
  | keyDown k =>
    obtain ⟨hkind, hcode, -⟩ := keyDown_fields k
    simp [hkind, hcode]
  | keyUp k =>
    obtain ⟨hkind, hcode, -⟩ := keyUp_fields k
    simp [hkind, hcode]
  | endSession r => cases r <;> decide

/-- Settles O36: each form's fields, and the command read back from them. -/
theorem commandWordLayout : Obligations.CommandWordLayout :=
  ⟨move_fields, keyDown_fields, keyUp_fields, rfl, rfl, fun _ _ h => commandOfWord_commandWord.injective h⟩

end Sys2Proof.Machine


/-! PROOFS. What a step emits (R12, R66, R109, R110, R173): nothing, the commands of one completed frame, or the
releases of a teardown and its END. -/

namespace Sys2Proof.Machine

/-! ### The commands of each operation -/

/-- A command that a frame operation can emit: a MOVE, or a press or release of an axis's key (R131 to R134). -/
def IsFrameCommand (c : Command) : Prop :=
  (∃ dx dy, c = .move dx dy) ∨ ∃ a, pressesOn a c = true ∨ releasesOn a c = true

/-- A command that RELEASE_ALL can emit: a release of an axis's key (R158). -/
def IsRelease (c : Command) : Prop := ∃ a, releasesOn a c = true

theorem IsRelease.isFrameCommand {c : Command} (h : IsRelease c) : IsFrameCommand c := by
  obtain ⟨a, ha⟩ := h
  exact .inr ⟨a, .inr ha⟩

theorem IsFrameCommand.isEnd_eq_false {c : Command} (h : IsFrameCommand c) : isEnd c = false := by
  cases c with
  | endSession => simp [IsFrameCommand, pressesOn, releasesOn] at h
  | move | keyDown | keyUp => rfl

/-- An axis's keys are those that KEYMAP gives it (R151). -/
theorem isKeyOf_iff {a : DiscreteAxis} {k : Byte} : isKeyOf a k = true ↔ ∃ sym, Config.keyMap a sym = some k := by
  constructor
  · intro h
    obtain hpositive | hnegative := by simpa [isKeyOf] using h
    · exact ⟨.positive, hpositive⟩
    · exact ⟨.negative, hnegative⟩
  · rintro ⟨sym, h⟩
    exact isKeyOf_of_keyMap h

/-- The codes of the keys of the two axes (R66). -/
theorem isKeyOf_mem_keyCodes {a : DiscreteAxis} {k : Byte} (h : isKeyOf a k = true) :
    k ∈ [0x61#8, 0x64#8, 0x73#8, 0x77#8] := by
  obtain ⟨sym, hk⟩ := isKeyOf_iff.mp h
  cases sym with
  | neutral => simp at hk
  | positive | negative => cases a <;> cases hk <;> decide

theorem keyUpOf_isRelease {a : DiscreteAxis} {sym : Symbol} {c : Command} (h : c ∈ keyUpOf a sym) : IsRelease c := by
  obtain ⟨k, hk, rfl⟩ := mem_keyUpOf.mp h
  exact ⟨a, isKeyOf_of_keyMap hk⟩

theorem mem_arrangeReleases {order : TeardownOrder} {up2 up3 : List Command} {c : Command} :
    c ∈ arrangeReleases order up2 up3 ↔ c ∈ up2 ∨ c ∈ up3 := by
  cases order with
  | axis2First => exact List.mem_append
  | axis3First => exact List.mem_append.trans or_comm

/-- `t` holds the OUT of `s` with commands of one frame operation appended. -/
def AppendsFrame (s t : State) : Prop := ∃ cs, t.out = s.out ++ cs ∧ ∀ c ∈ cs, IsFrameCommand c

theorem keyStep_appendsFrame {a : DiscreteAxis} {raw : RawValue} {s t : State} (h : keyStep a raw s = .ok t) :
    AppendsFrame s t := by
  obtain ⟨old, rfl⟩ := keyStep_eq_ok h
  exact ⟨keyCommands a old (symbolOfRaw raw), by simp,
    fun c hc => .inr ⟨a, pressesOn_or_releasesOn_of_mem_keyCommands hc⟩⟩

theorem dispatch_appendsFrame {w : FrameWord} {s t : State} (h : dispatch w s = .ok t) : AppendsFrame s t := by
  obtain ⟨-, rfl⟩ | ⟨-, rfl⟩ | ⟨-, hkey⟩ | ⟨-, hkey⟩ | ⟨-, rfl⟩ := dispatch_ok h
  · exact ⟨_, emit_out _ s, by simp [IsFrameCommand]⟩
  · exact ⟨_, emit_out _ s, by simp [IsFrameCommand]⟩
  · exact keyStep_appendsFrame hkey
  · exact keyStep_appendsFrame hkey
  · exact ⟨[], by simp, by simp⟩

theorem completeFrame_appendsFrame {b : Byte} {s t : State} (h : completeFrame b s = .ok t) : AppendsFrame s t := by
  obtain ⟨_, _, -, -, hdispatch⟩ := completeFrame_ok h
  have hrescan : AppendsFrame (rescan s) t := dispatch_appendsFrame hdispatch
  exact hrescan

/-- A teardown appends releases, and the END last (R171 to R173). -/
theorem teardown_appends {r : EndReason} {s t : State} (h : teardown r s = .ok t) :
    ∃ ups, t.out = s.out ++ (ups ++ [.endSession r]) ∧ ∀ c ∈ ups, IsRelease c := by
  obtain ⟨old2, old3, -, -, rfl⟩ := teardown_ok h
  refine ⟨_, rfl, fun c hc => ?_⟩
  obtain hup | hup := mem_arrangeReleases.mp hc
  · exact keyUpOf_isRelease hup
  · exact keyUpOf_isRelease hup

/-! ### The commands of a step -/

/-- The first event on the port has this KIND. -/
def TakesKind (s : State) (kind : BitVec 3) : Prop := ∃ ev rest, s.input = ev :: rest ∧ kindOf ev = kind

/-- The KIND of the event that ends a session for this reason (R63, R171, R172). -/
def endKind : EndReason → BitVec 3
  | .closed => 2#3
  | .error => 3#3

/-- What a step from `s` to `t` emits, with the event that it takes for it and what it does to SESS. -/
inductive Emission (s t : State) : Prop
  /-- Nothing, and no session ends. -/
  | silent : t.out = s.out → t.sess = s.sess ∨ t.sess = .active → Emission s t
  /-- The commands of a completed frame (R105). -/
  | frame (cs : List Command) : s.sess = .active → s.phase = .pay2 → TakesKind s 0#3 → t.sess = .active →
      t.out = s.out ++ cs → (∀ c ∈ cs, IsFrameCommand c) → Emission s t
  /-- The releases of a teardown, and its END (R171, R172). -/
  | teardown (r : EndReason) (ups : List Command) : s.sess = .active → TakesKind s (endKind r) → t.sess = .closed →
      t.out = s.out ++ (ups ++ [.endSession r]) → (∀ c ∈ ups, IsRelease c) → Emission s t

theorem step_emission {s t : State} (h : step s = .next t) : Emission s t := by
  obtain ⟨-, rfl⟩ | ⟨ev, rest, hinput, heffect⟩ := step_cases h
  · exact .silent rfl (.inl rfl)
  cases heffect with
  | cap2 _ hactive hphase hkind hframe =>
    obtain ⟨cs, hout, hcs⟩ := completeFrame_appendsFrame hframe
    exact .frame cs hactive hphase ⟨ev, rest, hinput, hkind⟩ ((completeFrame_sess hframe).trans hactive) hout hcs
  | teardown r _ hactive hkind hteardown =>
    obtain ⟨ups, hout, hups⟩ := teardown_appends hteardown
    exact .teardown r ups hactive ⟨ev, rest, hinput, hkind.trans (by cases r <;> rfl)⟩ (teardown_sess hteardown) hout
      hups
  | sessionOpen => exact .silent rfl (.inr rfl)
  | sync | skip | cap0 | cap1 | cap2Fault | idle | trunc | teardownFault | refused => exact .silent rfl (.inl rfl)

/-! ### ENDs (R173) -/

theorem filter_isEnd_eq_nil {cs : List Command} (h : ∀ c ∈ cs, IsFrameCommand c) : cs.filter isEnd = [] := by
  rw [List.filter_eq_nil_iff]
  exact fun c hc => by simp [(h c hc).isEnd_eq_false]

/-- Settles O32: only a teardown ends a session, and its END is the one END of its commands and the last of them. -/
theorem endMarksExactlySessionEnds : Obligations.EndMarksExactlySessionEnds := by
  intro s t h
  cases step_emission h with
  | silent hout hsess =>
    have hstays : ¬ (s.sess = .active ∧ t.sess = .closed) := by
      rintro ⟨hactive, hclosed⟩
      simp [hactive, hclosed] at hsess
    exact ⟨by simp [hout, hstays], fun hactive hclosed => absurd ⟨hactive, hclosed⟩ hstays⟩
  | frame cs _ _ _ hactive hout hcs =>
    exact ⟨by simp [hout, hactive, filter_isEnd_eq_nil hcs], fun _ hclosed => nomatch hactive.symm.trans hclosed⟩
  | teardown r ups hactive hkind hclosed hout hups =>
    have hnone : ups.filter isEnd = [] := filter_isEnd_eq_nil fun c hc => (hups c hc).isFrameCommand
    have hend : [Command.endSession r].filter isEnd = [.endSession r] := rfl
    refine ⟨by simp [hout, hactive, hclosed, hnone, hend], fun _ _ => ?_⟩
    have hlast : t.out.getLast? = some (.endSession r) := by simp [hout, ← List.append_assoc]
    cases r with
    | closed => exact .inl ⟨hlast, hkind⟩
    | error => exact .inr ⟨hlast, hkind⟩

/-- Settles O54: a step that leaves no session open is silent and found none open, or is a teardown. -/
theorem stepKeepsEndLast : Obligations.StepKeepsEndLast := by
  intro s t hlast h hclosed
  cases step_emission h with
  | silent hout hsess =>
    rw [hout]
    obtain hsame | hactive := hsess
    · exact hlast (hsame.symm.trans hclosed)
    · nomatch hactive.symm.trans hclosed
  | frame _ _ _ _ hactive => nomatch hactive.symm.trans hclosed
  | teardown r ups _ _ _ hout => exact .inr ⟨r, by simp [hout, ← List.append_assoc]⟩

/-! ### Frame and key commands (R66, R109, R110) -/

/-- A command that a step appends is one of a completed frame, a release, or an END. -/
theorem step_appended_cases {s t : State} (h : step s = .next t) {cs : List Command} (hcs : t.out = s.out ++ cs)
    {c : Command} (hc : c ∈ cs) :
    (IsFrameCommand c ∧ s.sess = .active ∧ s.phase = .pay2 ∧ TakesKind s 0#3) ∨ IsRelease c ∨
      ∃ r, c = .endSession r := by
  cases step_emission h with
  | silent hout =>
    obtain rfl : cs = [] := List.self_eq_append_right.mp (hout.symm.trans hcs)
    nomatch hc
  | frame ds hactive hphase hkind _ hout hds =>
    obtain rfl : cs = ds := List.append_cancel_left (hcs.symm.trans hout)
    exact .inl ⟨hds c hc, hactive, hphase, hkind⟩
  | teardown r ups _ _ _ hout hups =>
    obtain rfl : cs = ups ++ [.endSession r] := List.append_cancel_left (hcs.symm.trans hout)
    obtain hup | hend := List.mem_append.mp hc
    · exact .inr (.inl (hups c hup))
    · exact .inr (.inr ⟨r, List.mem_singleton.mp hend⟩)

/-- Settles O47: no release and no END is a MOVE or a KEY_DOWN, so those are a frame's. -/
theorem onlyCompleteFramesAct : Obligations.OnlyCompleteFramesAct := by
  intro s t cs h hcs c hc hacts
  obtain ⟨-, hframe⟩ | ⟨a, hreleases⟩ | ⟨r, rfl⟩ := step_appended_cases h hcs hc
  · exact hframe
  · obtain ⟨_, _, rfl⟩ | ⟨_, rfl⟩ := hacts
    · nomatch hreleases
    · nomatch hreleases
  · simp at hacts

/-- The code of a key command that a frame or a teardown emits is a key of one of the axes. -/
theorem IsFrameCommand.key_mem {c : Command} (h : IsFrameCommand c) {k : Byte} (hk : c = .keyDown k ∨ c = .keyUp k) :
    k ∈ [0x61#8, 0x64#8, 0x73#8, 0x77#8] := by
  obtain ⟨_, _, rfl⟩ | ⟨a, ha⟩ := h
  · simp at hk
  · have hkey : isKeyOf a k = true := by
      obtain rfl | rfl := hk <;> simpa [pressesOn, releasesOn] using ha
    exact isKeyOf_mem_keyCodes hkey

/-- Settles O48: the key commands of a step are a frame's or a teardown's. -/
theorem onlyFourKeyCodesEmitted : Obligations.OnlyFourKeyCodesEmitted := by
  intro s t cs h hcs k hmem
  obtain ⟨c, hc, hk⟩ : ∃ c ∈ cs, c = .keyDown k ∨ c = .keyUp k := by
    obtain hdown | hup := hmem
    · exact ⟨_, hdown, .inl rfl⟩
    · exact ⟨_, hup, .inr rfl⟩
  obtain ⟨hframe, -⟩ | hrelease | ⟨r, rfl⟩ := step_appended_cases h hcs hc
  · exact hframe.key_mem hk
  · exact hrelease.isFrameCommand.key_mem hk
  · simp at hk

end Sys2Proof.Machine


/-! PROOFS. The history of the key commands (43_discrete_axis.md Properties, R152, R155 to R157), and the invariants
of every run (R35, R155, R173, R178, R221). -/

namespace Sys2Proof.Machine

/-! ### One command in the history of an axis -/

/-- No axis has a key of the other (R151). -/
theorem isKeyOf_eq_false_of_ne {a b : DiscreteAxis} {k : Byte} (hne : b ≠ a) (h : isKeyOf a k = true) :
    isKeyOf b k = false := by
  obtain ⟨x, hx⟩ := isKeyOf_iff.mp h
  refine Bool.eq_false_iff.mpr fun hb => ?_
  obtain ⟨y, hy⟩ := isKeyOf_iff.mp hb
  exact hne (keyMap_owner_unique hy hx).1

/-- The keys of one axis leave the history of the other alone (R154). -/
theorem trackKey_of_other_axis {a b : DiscreteAxis} (hne : b ≠ a) {c : Command}
    (hc : pressesOn a c = true ∨ releasesOn a c = true) (held : Option (Option Byte)) : trackKey b held c = held := by
  cases held with
  | none => rfl
  | some held =>
    cases c with
    | move | endSession => rfl
    | keyDown k =>
      have hkey : isKeyOf a k = true := by simpa [pressesOn, releasesOn] using hc
      simp [trackKey, isKeyOf_eq_false_of_ne hne hkey]
    | keyUp k =>
      have hkey : isKeyOf a k = true := by simpa [pressesOn, releasesOn] using hc
      simp [trackKey, isKeyOf_eq_false_of_ne hne hkey]

@[simp] theorem trackKey_move (a : DiscreteAxis) (held : Option (Option Byte)) (dx dy : RawValue) :
    trackKey a held (.move dx dy) = held := by
  cases held <;> rfl

@[simp] theorem trackKey_endSession (a : DiscreteAxis) (held : Option (Option Byte)) (r : EndReason) :
    trackKey a held (.endSession r) = held := by
  cases held <;> rfl

/-! ### Several commands in the history of an axis -/

theorem heldAfter_append (a : DiscreteAxis) (cs ds : List Command) :
    heldAfter a (cs ++ ds) = ds.foldl (trackKey a) (heldAfter a cs) := List.foldl_append

theorem foldl_trackKey_of_other_axis {a b : DiscreteAxis} (hne : b ≠ a) {cs : List Command}
    (hcs : ∀ c ∈ cs, pressesOn a c = true ∨ releasesOn a c = true) (held : Option (Option Byte)) :
    cs.foldl (trackKey b) held = held := by
  induction cs with
  | nil => rfl
  | cons c cs ih =>
    obtain ⟨hc, hcs⟩ := List.forall_mem_cons.mp hcs
    rw [List.foldl_cons, trackKey_of_other_axis hne hc, ih hcs]

/-- The release of the held key leaves none held. -/
theorem foldl_trackKey_keyUpOf (a : DiscreteAxis) (old : Symbol) :
    (keyUpOf a old).foldl (trackKey a) (some (Config.keyMap a old)) = some none := by
  unfold keyUpOf
  cases hk : Config.keyMap a old with
  | none => rfl
  | some k => simp [trackKey, isKeyOf_of_keyMap hk]

/-- A press from no key held leaves its own key held. -/
theorem foldl_trackKey_keyDownOf (a : DiscreteAxis) (new : Symbol) :
    (keyDownOf a new).foldl (trackKey a) (some none) = some (Config.keyMap a new) := by
  unfold keyDownOf
  cases hk : Config.keyMap a new with
  | none => rfl
  | some k => simp [trackKey, isKeyOf_of_keyMap hk]

/-- KEYSTEP's commands take the history from the old symbol's key to the new one's (R153). -/
theorem foldl_trackKey_keyCommands (a : DiscreteAxis) (old new : Symbol) :
    (keyCommands a old new).foldl (trackKey a) (some (Config.keyMap a old)) = some (Config.keyMap a new) := by
  by_cases hsame : new = old
  · rw [hsame, keyCommands_self, List.foldl_nil]
  · rw [keyCommands_of_ne hsame, List.foldl_append, foldl_trackKey_keyUpOf, foldl_trackKey_keyDownOf]

theorem foldl_trackKey_keyUpOf_of_ne {a b : DiscreteAxis} (hne : b ≠ a) (old : Symbol) (held : Option (Option Byte)) :
    (keyUpOf a old).foldl (trackKey b) held = held := by
  refine foldl_trackKey_of_other_axis hne (fun c hc => ?_) held
  obtain ⟨k, hk, rfl⟩ := mem_keyUpOf.mp hc
  exact .inr (isKeyOf_of_keyMap hk)

/-- RELEASE_ALL leaves no key held on axis 2, in either order (R158). -/
theorem foldl_trackKey_axis2_releases (order : TeardownOrder) (old2 old3 : Symbol) :
    (arrangeReleases order (keyUpOf .axis2 old2) (keyUpOf .axis3 old3)).foldl (trackKey .axis2)
      (some (Config.keyMap .axis2 old2)) = some none := by
  have hother := foldl_trackKey_keyUpOf_of_ne (a := .axis3) (b := .axis2) (by decide) old3
  cases order with
  | axis2First => rw [arrangeReleases, List.foldl_append, foldl_trackKey_keyUpOf, hother]
  | axis3First => rw [arrangeReleases, List.foldl_append, hother, foldl_trackKey_keyUpOf]

/-- RELEASE_ALL leaves no key held on axis 3, in either order (R158). -/
theorem foldl_trackKey_axis3_releases (order : TeardownOrder) (old2 old3 : Symbol) :
    (arrangeReleases order (keyUpOf .axis2 old2) (keyUpOf .axis3 old3)).foldl (trackKey .axis3)
      (some (Config.keyMap .axis3 old3)) = some none := by
  have hother := foldl_trackKey_keyUpOf_of_ne (a := .axis2) (b := .axis3) (by decide) old2
  cases order with
  | axis2First => rw [arrangeReleases, List.foldl_append, hother, foldl_trackKey_keyUpOf]
  | axis3First => rw [arrangeReleases, List.foldl_append, foldl_trackKey_keyUpOf, hother]

/-! ### The agreement of OUT with the KEY registers (R152, R155) -/

theorem historyFits_iff {s : State} :
    HistoryFits s ↔ ∀ a, heldAfter a s.out = some (assertedKey a (keyOf a s)) := by
  constructor
  · rintro ⟨h2, h3⟩ a
    cases a with
    | axis2 => exact h2
    | axis3 => exact h3
  · exact fun h => ⟨h .axis2, h .axis3⟩

/-- KEYSTEP moves its own axis's history and KEY register together, and leaves those of the other axis. -/
theorem keyStep_historyFits {a : DiscreteAxis} {raw : RawValue} {s t : State} (h : keyStep a raw s = .ok t)
    (hfits : HistoryFits s) : HistoryFits t := by
  obtain ⟨old, hold, -⟩ := keyStep_ok h
  obtain rfl := Except.ok.inj (h.symm.trans (keyStep_of_keyOf hold raw))
  rw [historyFits_iff] at hfits ⊢
  intro b
  rw [setKey_out, emitAll_out, heldAfter_append, hfits b, keyOf_setKey, keyOf_emitAll]
  by_cases hb : b = a
  · rw [hb, if_pos rfl, hold, assertedKey_keyOfSymbol, assertedKey_keyOfSymbol, foldl_trackKey_keyCommands]
  · rw [if_neg hb]
    exact foldl_trackKey_of_other_axis hb (fun c hc => pressesOn_or_releasesOn_of_mem_keyCommands hc) _

theorem emit_move_historyFits {s : State} (dx dy : RawValue) (hfits : HistoryFits s) :
    HistoryFits (emit (.move dx dy) s) := by
  simpa [HistoryFits, heldAfter_append] using hfits

theorem dispatch_historyFits {w : FrameWord} {s t : State} (h : dispatch w s = .ok t) (hfits : HistoryFits s) :
    HistoryFits t := by
  obtain ⟨-, rfl⟩ | ⟨-, rfl⟩ | ⟨-, hkey⟩ | ⟨-, hkey⟩ | ⟨-, rfl⟩ := dispatch_ok h
  · exact emit_move_historyFits _ _ hfits
  · exact emit_move_historyFits _ _ hfits
  · exact keyStep_historyFits hkey hfits
  · exact keyStep_historyFits hkey hfits
  · exact hfits

theorem completeFrame_historyFits {b : Byte} {s t : State} (h : completeFrame b s = .ok t) (hfits : HistoryFits s) :
    HistoryFits t := by
  obtain ⟨_, _, -, -, hdispatch⟩ := completeFrame_ok h
  exact dispatch_historyFits hdispatch hfits

/-- A teardown releases exactly the held keys, so none is held, as the UNASSERTED registers say (R158, R171, R172). -/
theorem teardown_historyFits {r : EndReason} {s t : State} (h : teardown r s = .ok t) (hfits : HistoryFits s) :
    HistoryFits t := by
  obtain ⟨old2, old3, h2, h3, rfl⟩ := teardown_ok h
  simp only [HistoryFits, h2, h3, assertedKey_keyOfSymbol] at hfits
  obtain ⟨hfits2, hfits3⟩ := hfits
  constructor
  · rw [heldAfter_append, hfits2, List.foldl_append, foldl_trackKey_axis2_releases]
    rfl
  · rw [heldAfter_append, hfits3, List.foldl_append, foldl_trackKey_axis3_releases]
    rfl

/-- OPEN finds both KEY registers UNASSERTED already (R35, R170). -/
theorem Effect.keeps_historyFits {s t : State} {ev : EventWord} (h : Effect s ev t) (hfit : RegistersFit s)
    (hfits : HistoryFits s) : HistoryFits t := by
  cases h with
  | cap2 _ _ _ _ hframe => exact completeFrame_historyFits hframe hfits
  | teardown _ _ _ _ hteardown => exact teardown_historyFits hteardown hfits
  | sessionOpen hclosed =>
    obtain ⟨-, -, -, hidle⟩ := hfit
    obtain ⟨-, -, -, hkey2, hkey3⟩ := hidle hclosed
    simpa [HistoryFits, hkey2, hkey3] using hfits
  | sync | skip | cap0 | cap1 | cap2Fault | idle | trunc | teardownFault | refused => exact hfits

/-- Settles O53: OUT and the KEY registers do not depend on the port, and every effect keeps their agreement. -/
theorem stepKeepsKeyHistory : Obligations.StepKeepsKeyHistory := by
  intro s t hfit hfits h
  obtain ⟨-, rfl⟩ | ⟨ev, rest, -, heffect⟩ := step_cases h
  · exact hfits
  · exact heffect.keeps_historyFits hfit hfits

/-! ### Repeated samples (R157) -/

theorem filter_pressesOn_keyUpOf (a : DiscreteAxis) (sym : Symbol) : (keyUpOf a sym).filter (pressesOn a) = [] := by
  rw [List.filter_eq_nil_iff]
  intro c hc
  obtain ⟨k, -, rfl⟩ := mem_keyUpOf.mp hc
  exact Bool.false_ne_true

theorem filter_releasesOn_keyDownOf (a : DiscreteAxis) (sym : Symbol) :
    (keyDownOf a sym).filter (releasesOn a) = [] := by
  rw [List.filter_eq_nil_iff]
  intro c hc
  obtain ⟨k, -, rfl⟩ := mem_keyDownOf.mp hc
  exact Bool.false_ne_true

/-- KEYSTEP's commands are at most one release and one press (R153). -/
theorem keyCommands_bounds (a : DiscreteAxis) (old new : Symbol) :
    (keyCommands a old new).length ≤ 2 ∧ ((keyCommands a old new).filter (pressesOn a)).length ≤ 1 ∧
      ((keyCommands a old new).filter (releasesOn a)).length ≤ 1 := by
  by_cases hsame : new = old
  · simp [hsame]
  · have hup := keyUpOf_length_le_one a old
    have hdown := keyDownOf_length_le_one a new
    rw [keyCommands_of_ne hsame, List.filter_append, List.filter_append, filter_pressesOn_keyUpOf,
      filter_releasesOn_keyDownOf, List.nil_append, List.append_nil, List.length_append]
    exact ⟨Nat.add_le_add hup hdown, (List.length_filter_le _ _).trans hdown, (List.length_filter_le _ _).trans hup⟩

/-- A sample of the symbol that the KEY register already stores does nothing (R153). -/
theorem keyStep_of_stored {a : DiscreteAxis} {raw : RawValue} {s : State}
    (h : keyOf a s = keyOfSymbol (symbolOfRaw raw)) : keyStep a raw s = .ok s := by
  rw [keyStep_of_keyOf h, keyCommands_self, emitAll_nil, ← h, setKey_keyOf]

/-- Settles O25: the first sample stores its symbol, which is the second's. -/
theorem repeatedSampleIsSilent : Obligations.RepeatedSampleIsSilent := by
  intro a raw raw' s t u hsymbol h hsame
  rw [← symbolOfRaw_eq, ← symbolOfRaw_eq] at hsymbol
  obtain ⟨old, rfl⟩ := keyStep_eq_ok h
  rw [keyOf_setKey, if_pos rfl, hsymbol] at hsame
  exact ⟨keyStep_of_stored hsame, keyCommands a old (symbolOfRaw raw), by simp, keyCommands_bounds a old _⟩

/-! ### Every run (R35, R155, R173, R178) -/

/-- Settles O2: the invariants do not read the port, and the power-on registers have their session-start values. -/
theorem powerOnMeetsInvariants : Obligations.PowerOnMeetsInvariants := by
  intro events
  have hfit : RegistersFit State.reset := by decide
  have hfits : HistoryFits State.reset := ⟨rfl, rfl⟩
  exact ⟨hfit, hfits, fun _ => .inl rfl⟩

/-- Settles O55: each invariant holds at power-on and every step keeps it. -/
theorem everyRunIsSafe : Obligations.EveryRunIsSafe := by
  intro s hs
  induction hs with
  | powerOn events =>
    obtain ⟨hfit, hfits, hend⟩ := powerOnMeetsInvariants events
    exact ⟨hfit, hfits, hend, rfl⟩
  | next s t _ h ih =>
    obtain ⟨hfit, hfits, hend, hfault⟩ := ih
    obtain ⟨hfit', hfault'⟩ := stepKeepsRegistersFit s t hfit h
    exact ⟨hfit', stepKeepsKeyHistory s t hfit hfits h, stepKeepsEndLast s t hend h, hfault'.trans hfault⟩

/-- Settles O57: with no session open the KEY registers are UNASSERTED, so they assert no key. -/
theorem completeRunHoldsNoKey : Obligations.CompleteRunHoldsNoKey := by
  intro s hs hcomplete
  obtain ⟨-, -, -, hclosed⟩ := hcomplete
  obtain ⟨⟨-, -, -, hidle⟩, ⟨hheld2, hheld3⟩, hend, -⟩ := everyRunIsSafe s hs
  obtain ⟨-, -, -, hkey2, hkey3⟩ := hidle hclosed
  rw [hkey2] at hheld2
  rw [hkey3] at hheld3
  exact ⟨hheld2, hheld3, hend hclosed⟩

/-! ### Presses and releases alternate (R156) -/

/-- After a press some key is held, or the history is broken. -/
theorem trackKey_ne_free_of_press {a : DiscreteAxis} {c : Command} (hc : pressesOn a c = true)
    (held : Option (Option Byte)) : trackKey a held c ≠ some none := by
  cases c with
  | move | keyUp | endSession => nomatch hc
  | keyDown k =>
    have hkey : isKeyOf a k = true := hc
    rcases held with _ | _ | j <;> simp [trackKey, hkey]

/-- A press while a key is held breaks the history. -/
theorem trackKey_eq_broken_of_press {a : DiscreteAxis} {c : Command} (hc : pressesOn a c = true)
    {held : Option (Option Byte)} (hheld : held ≠ some none) : trackKey a held c = none := by
  cases c with
  | move | keyUp | endSession => nomatch hc
  | keyDown k =>
    have hkey : isKeyOf a k = true := hc
    rcases held with _ | _ | j
    · rfl
    · exact absurd rfl hheld
    · simp [trackKey, hkey]

/-- Only a release frees the axis. -/
theorem trackKey_ne_free_of_not_release {a : DiscreteAxis} {c : Command} (hc : ¬ releasesOn a c = true)
    {held : Option (Option Byte)} (hheld : held ≠ some none) : trackKey a held c ≠ some none := by
  cases c with
  | move => rwa [trackKey_move]
  | endSession => rwa [trackKey_endSession]
  | keyDown k =>
    rcases held with _ | _ | j
    · nofun
    · exact absurd rfl hheld
    · by_cases hkey : isKeyOf a k = true <;> simp [trackKey, hkey]
  | keyUp k =>
    have hkey : isKeyOf a k = false := Bool.eq_false_iff.mpr hc
    rcases held with _ | _ | j
    · nofun
    · exact absurd rfl hheld
    · simp [trackKey, hkey]

theorem foldl_trackKey_ne_free_of_not_release {a : DiscreteAxis} {cs : List Command}
    (hcs : ∀ c ∈ cs, ¬ releasesOn a c = true) {held : Option (Option Byte)} (hheld : held ≠ some none) :
    cs.foldl (trackKey a) held ≠ some none := by
  induction cs generalizing held with
  | nil => exact hheld
  | cons c cs ih =>
    obtain ⟨hc, hcs⟩ := List.forall_mem_cons.mp hcs
    exact ih hcs (trackKey_ne_free_of_not_release hc hheld)

/-- A broken history stays broken. -/
theorem foldl_trackKey_broken (a : DiscreteAxis) (cs : List Command) : cs.foldl (trackKey a) none = none :=
  List.foldl_fixed' (fun _ => rfl) cs

/-- Two presses of an axis without a release of it between them break its history. -/
theorem heldAfter_eq_broken {a : DiscreteAxis} {mid : List Command} {c c' : Command} (hc : pressesOn a c = true)
    (hc' : pressesOn a c' = true) (hmid : ∀ u ∈ mid, ¬ releasesOn a u = true) (before after : List Command) :
    heldAfter a (before ++ c :: (mid ++ c' :: after)) = none := by
  have hheld := foldl_trackKey_ne_free_of_not_release hmid (trackKey_ne_free_of_press hc (heldAfter a before))
  rw [heldAfter_append, List.foldl_cons, List.foldl_append, List.foldl_cons, trackKey_eq_broken_of_press hc' hheld,
    foldl_trackKey_broken]

/-- Settles O56: the history of no reachable state is broken. -/
theorem pressesAreSeparatedByReleases : Obligations.PressesAreSeparatedByReleases := by
  intro s hs a before mid after c c' hout hc hc'
  obtain ⟨-, hfits, -, -⟩ := everyRunIsSafe s hs
  have hheld := historyFits_iff.mp hfits a
  by_contra hnone
  rw [hout, heldAfter_eq_broken hc hc' (fun u hu hreleases => hnone ⟨u, hu, hreleases⟩)] at hheld
  nomatch hheld

end Sys2Proof.Machine


/-! PROOFS. The event rows of the opcode table (R67, R73). The rows of SCAN read DATA: SYNC's one byte, and SKIP's
blocks of bytes, whose highest zero bit stands at one place each. Every other row reads KIND alone. -/

namespace Sys2Proof

/-! ### Masked event words -/

/-- Masking one event word with another masks each field. -/
theorem eventWord_and (k j : BitVec 3) (d e : Byte) :
    eventWord k d &&& eventWord j e = eventWord (k &&& j) (d &&& e) := BitVec.and_append

theorem eventWord_inj {k j : BitVec 3} {d e : Byte} : eventWord k d = eventWord j e ↔ k = j ∧ d = e := by
  rw [eq_eventWord_iff, kindOf_eventWord, dataOf_eventWord]

/-- A row matches an event word by each field. -/
theorem EventRow.matchesWord_eventWord {r : EventRow} {pk mk : BitVec 3} {pd md : Byte}
    (hpattern : r.pattern = eventWord pk pd) (hmask : r.mask = eventWord mk md) (k : BitVec 3) (d : Byte) :
    r.matchesWord (eventWord k d) = true ↔ k &&& mk = pk ∧ d &&& md = pd := by
  rw [EventRow.matchesWord, hpattern, hmask, eventWord_and, beq_iff_eq, eventWord_inj]

/-! ### The rows that read KIND alone -/

/-- The rows after those of SYNC and SKIP. -/
def kindRows : List EventRow := eventTable.drop 9

theorem kindRows_ignore_data : ∀ r ∈ kindRows,
    r.pattern = eventWord (kindOf r.pattern) 0#8 ∧ r.mask = eventWord (kindOf r.mask) 0#8 := by decide

theorem kindRow_selects {r : EventRow} (hr : r ∈ kindRows) (sess : Sess) (phase : Phase) (k : BitVec 3) (d : Byte) :
    r.selects sess phase (eventWord k d) = r.selects sess phase (eventWord k 0#8) := by
  obtain ⟨hpattern, hmask⟩ := kindRows_ignore_data r hr
  have hmatches : r.matchesWord (eventWord k d) = r.matchesWord (eventWord k 0#8) := by
    rw [Bool.eq_iff_iff, r.matchesWord_eventWord hpattern hmask, r.matchesWord_eventWord hpattern hmask,
      BitVec.and_zero, BitVec.and_zero]
  rw [EventRow.selects, EventRow.selects, hmatches]

/-- Is an event of this KIND a BYTE in SCAN, which SYNC and SKIP take? -/
def IsScanByte (sess : Sess) (phase : Phase) (k : BitVec 3) : Prop := sess = .active ∧ phase = .scan ∧ k = 0#3

/-- Out of the rows that read KIND alone, an event of DATA 0 selects one, that of the decoder's operation. -/
theorem mnemonics_of_selected_kindRows_zero {sess : Sess} {phase : Phase} {k : BitVec 3}
    (h : ¬ IsScanByte sess phase k) :
    (kindRows.filter (·.selects sess phase (eventWord k 0#8))).map (·.mnemonic) =
      [mnemonicOf (decodeEvent sess phase (eventWord k 0#8))] := by
  unfold IsScanByte at h
  cases sess <;> cases phase <;> revert k <;> decide

/-- Out of SCAN's BYTEs, DATA does not take part in the choice of the operation (R67). -/
theorem mnemonicOf_decodeEvent_eventWord {sess : Sess} {phase : Phase} {k : BitVec 3} (h : ¬ IsScanByte sess phase k)
    (d d' : Byte) :
    mnemonicOf (decodeEvent sess phase (eventWord k d)) = mnemonicOf (decodeEvent sess phase (eventWord k d')) := by
  simp only [decodeEvent, kindOf_eventWord, dataOf_eventWord]
  rcases Machine.kind_cases k with rfl | rfl | rfl | rfl | rfl | rfl | rfl | rfl
  case inl =>
    cases sess with
    | closed => rfl
    | active =>
      cases phase with
      | scan => exact absurd ⟨rfl, rfl, rfl⟩ h
      | pay0 | pay1 | pay2 => rfl
  case inr.inl =>
    cases sess with
    | closed => rfl
    | active => cases phase <;> rfl
  all_goals cases sess <;> rfl

theorem mnemonics_of_selected_kindRows {sess : Sess} {phase : Phase} {k : BitVec 3} (h : ¬ IsScanByte sess phase k)
    (d : Byte) :
    (kindRows.filter (·.selects sess phase (eventWord k d))).map (·.mnemonic) =
      [mnemonicOf (decodeEvent sess phase (eventWord k d))] := by
  rw [List.filter_congr fun r hr => kindRow_selects hr sess phase k d, mnemonics_of_selected_kindRows_zero h,
    mnemonicOf_decodeEvent_eventWord h]

theorem kindRows_select_no_scanByte (d : Byte) : kindRows.filter (·.selects .active .scan (eventWord 0#3 d)) = [] := by
  rw [List.filter_congr fun r hr => kindRow_selects hr .active .scan 0#3 d]
  rfl

/-! ### The rows of SCAN -/

/-- The row of a BYTE in SCAN whose bits above the low `lowBits` ones are `high`. -/
def scanRow (mnemonic : String) (lowBits high : Nat) : EventRow where
  mnemonic := mnemonic
  pattern := eventWord 0#3 (BitVec.ofNat 8 high <<< lowBits)
  mask := eventWord 7#3 (BitVec.allOnes 8 <<< lowBits)
  sessions := [.active]
  phases := [.scan]

def syncRow : EventRow := scanRow "SYNC" 0 255

/-- SKIP's row of the bytes whose highest zero bit is bit `place`. -/
def skipRow (place : Nat) : EventRow := scanRow "SKIP" place (2 ^ (8 - place) - 2)

theorem eventTable_eq_rows : eventTable = syncRow :: [7, 6, 5, 4, 3, 2, 1, 0].map skipRow ++ kindRows := by decide

/-- A row of SCAN selects nothing but BYTEs in SCAN. -/
theorem scanRow_selects_false {sess : Sess} {phase : Phase} {k : BitVec 3} (h : ¬ IsScanByte sess phase k)
    (mnemonic : String) (lowBits high : Nat) (d : Byte) :
    ¬ (scanRow mnemonic lowBits high).selects sess phase (eventWord k d) = true := by
  simp only [EventRow.selects, Bool.and_eq_true, EventRow.matchesWord_eventWord (r := scanRow _ _ _) rfl rfl]
  rintro ⟨⟨⟨hkind, -⟩, hsess⟩, hphase⟩
  have hseven : k &&& 7#3 = k := BitVec.and_allOnes
  exact h ⟨by simpa [scanRow] using hsess, by simpa [scanRow] using hphase, hseven.symm.trans hkind⟩

/-- A row of SCAN selects a BYTE by the high bits that it fixes. -/
theorem scanRow_selects_scanByte (mnemonic : String) {lowBits high : Nat} (hfit : high * 2 ^ lowBits < 256) (d : Byte) :
    (scanRow mnemonic lowBits high).selects .active .scan (eventWord 0#3 d) =
      decide (d.toNat / 2 ^ lowBits = high) := by
  rw [Bool.eq_iff_iff, decide_eq_true_iff, ← highBits_eq_iff d hfit]
  simp only [EventRow.selects, Bool.and_eq_true, EventRow.matchesWord_eventWord (r := scanRow _ _ _) rfl rfl]
  simp [scanRow]

/-- The highest zero bit of a byte is the leading one bit of its complement. -/
theorem skipRow_selects_scanByte {place : Nat} (hplace : place < 8) {d : Byte} (hd : 255 - d.toNat ≠ 0) :
    (skipRow place).selects .active .scan (eventWord 0#3 d) = decide ((255 - d.toNat).log2 = place) := by
  have hbyte := d.isLt
  have hfit : (2 ^ (8 - place) - 2) * 2 ^ place < 256 := by interval_cases place <;> decide
  rw [skipRow, scanRow_selects_scanByte _ hfit, decide_eq_decide, ← div_two_pow_eq_one_iff hd]
  interval_cases place <;> omega

/-- The rows of SYNC and SKIP divide the bytes among them (R101, R102). -/
theorem mnemonics_of_selected_scanRows (d : Byte) :
    ((syncRow :: [7, 6, 5, 4, 3, 2, 1, 0].map skipRow).filter (·.selects .active .scan (eventWord 0#3 d))).map
      (·.mnemonic) = [mnemonicOf (decodeEvent .active .scan (eventWord 0#3 d))] := by
  have hbyte := d.isLt
  by_cases hsync : d = Config.sync
  · subst hsync
    rfl
  · have hd : 255 - d.toNat ≠ 0 := by
      simp only [← BitVec.toNat_inj, Config.sync, BitVec.toNat_ofNat] at hsync
      omega
    have hselects : syncRow.selects .active .scan (eventWord 0#3 d) = false := by
      rw [syncRow, scanRow_selects_scanByte _ (by decide), decide_eq_false_iff_not]
      omega
    have hplaces : ∀ place ∈ [7, 6, 5, 4, 3, 2, 1, 0], place < 8 := by decide
    have hskips : ∀ place ∈ [7, 6, 5, 4, 3, 2, 1, 0],
        (skipRow place).selects .active .scan (eventWord 0#3 d) = decide ((255 - d.toNat).log2 = place) :=
      fun place hmem => skipRow_selects_scanByte (hplaces place hmem) hd
    have hdecode : decodeEvent .active .scan (eventWord 0#3 d) = .skip d := by
      simp [decodeEvent, kindOfField, hsync]
    have hlog : (255 - d.toNat).log2 < 8 := (Nat.log2_lt hd).mpr (by omega)
    rw [List.filter_cons_of_neg (by simp [hselects]), List.filter_map, hdecode]
    simp only [Function.comp_def]
    rw [List.filter_congr hskips]
    generalize (255 - d.toNat).log2 = place at hlog
    interval_cases place <;> rfl

/-! ### Every event -/

theorem mnemonics_of_selected_eventRows (sess : Sess) (phase : Phase) (k : BitVec 3) (d : Byte) :
    (eventTable.filter (·.selects sess phase (eventWord k d))).map (·.mnemonic) =
      [mnemonicOf (decodeEvent sess phase (eventWord k d))] := by
  rw [eventTable_eq_rows, List.filter_append, List.map_append]
  by_cases h : IsScanByte sess phase k
  · obtain ⟨rfl, rfl, rfl⟩ := h
    rw [mnemonics_of_selected_scanRows, kindRows_select_no_scanByte]
    rfl
  · have hscan : (syncRow :: [7, 6, 5, 4, 3, 2, 1, 0].map skipRow).filter
        (·.selects sess phase (eventWord k d)) = [] := by
      rw [List.filter_eq_nil_iff]
      intro r hr
      obtain rfl | hr := List.mem_cons.mp hr
      · exact scanRow_selects_false h _ _ _ d
      · obtain ⟨place, -, rfl⟩ := List.mem_map.mp hr
        exact scanRow_selects_false h _ _ _ d
    rw [hscan, mnemonics_of_selected_kindRows h]
    rfl

/-- Settles O37: every event word is its KIND and DATA, and each row tests the two apart. -/
theorem eventTableSelectsExactlyOne : Obligations.EventTableSelectsExactlyOne := by
  intro sess phase ev
  have h := mnemonics_of_selected_eventRows sess phase (kindOf ev) (dataOf ev)
  rwa [eventWord_fields] at h

end Sys2Proof


/-! PROOFS. What a step does not read: the DATA of every kind but BYTE (R64), the commands already in OUT (R3, R36),
and with no session open every register but SESS (R220). -/

namespace Sys2Proof.Machine

/-! ### DATA (R64) -/

/-- The operations of a kind but BYTE keep DATA only to encode it (R64). -/
theorem exec_decodeEvent_eventWord {k : BitVec 3} (hk : k ≠ 0#3) (sess : Sess) (phase : Phase) (d d' : Byte) :
    exec (decodeEvent sess phase (eventWord k d)) = exec (decodeEvent sess phase (eventWord k d')) := by
  simp only [decodeEvent, kindOf_eventWord, dataOf_eventWord]
  rcases kind_cases k with rfl | rfl | rfl | rfl | rfl | rfl | rfl | rfl
  case inl => exact absurd rfl hk
  case inr.inl =>
    cases sess with
    | closed => rfl
    | active => cases phase <;> rfl
  all_goals cases sess <;> rfl

/-- Settles O42: the two events have one KIND, and the operations that it selects do not use DATA. -/
theorem dataOfOtherKindsIsIgnored : Obligations.DataOfOtherKindsIsIgnored := by
  intro s ev ev' rest hsame hkind
  have hexec := exec_decodeEvent_eventWord hkind s.sess s.phase (dataOf ev) (dataOf ev')
  rw [eventWord_fields, hsame, eventWord_fields] at hexec
  rw [step_of_input rfl, step_of_input rfl]
  exact congrFun hexec { s with input := rest }

/-! ### OUT (R3, R36) -/

/-- The state with these commands in OUT. -/
def withOut (out : List Command) (s : State) : State := { s with out := out }

/-- A rule that from `s`, whatever OUT holds, faults with the same reason, or appends the same commands and answers the
same registers. -/
def RuleAppendsSame (rule : State → Except Fault State) (s : State) : Prop :=
  (∃ f, ∀ out, rule (withOut out s) = .error f) ∨ ∃ cs u, ∀ out, rule (withOut out s) = .ok (withOut (out ++ cs) u)

/-- A transition that from `s`, whatever OUT holds, appends the same commands and answers the same registers. -/
def AppendsSame (next : State → Host.Outcome State Fault Refusal) (s : State) : Prop :=
  ∃ cs u, ∀ out, next (withOut out s) = .next (withOut (out ++ cs) u)

theorem appendsSame_of_silent {next : State → Host.Outcome State Fault Refusal} {s u : State}
    (h : ∀ out, next (withOut out s) = .next (withOut out u)) : AppendsSame next s :=
  ⟨[], u, fun out => by rw [h, List.append_nil]⟩

/-- An atomic step does what its rule does, or sets the FAULT mark alone (R159). -/
theorem RuleAppendsSame.atomically {rule : State → Except Fault State} {s : State} (h : RuleAppendsSame rule s) :
    AppendsSame (fun s => .next (atomically s rule)) s := by
  obtain ⟨f, herror⟩ | ⟨cs, u, hok⟩ := h
  · exact appendsSame_of_silent (u := markFault f s) fun out =>
      congrArg Host.Outcome.next (atomically_error (herror out))
  · exact ⟨cs, u, fun out => congrArg Host.Outcome.next (atomically_ok (hok out))⟩

theorem keyOf_withOut (a : DiscreteAxis) (out : List Command) (s : State) : keyOf a (withOut out s) = keyOf a s := by
  cases a <;> rfl

theorem setKey_emitAll_withOut (a : DiscreteAxis) (k : KeyReg) (cs out : List Command) (s : State) :
    setKey a k (emitAll cs (withOut out s)) = withOut (out ++ cs) (setKey a k s) := by
  cases a <;> rfl

theorem keyStep_appendsSame (a : DiscreteAxis) (raw : RawValue) (s : State) : RuleAppendsSame (keyStep a raw) s := by
  by_cases hillegal : keyOf a s = .illegal
  · exact .inl ⟨_, fun out => keyStep_error.mpr ⟨(keyOf_withOut a out s).trans hillegal, rfl⟩⟩
  · obtain ⟨old, hold⟩ := exists_keyOfSymbol_of_ne_illegal hillegal
    refine .inr ⟨keyCommands a old (symbolOfRaw raw), setKey a (keyOfSymbol (symbolOfRaw raw)) s, fun out => ?_⟩
    rw [keyStep_of_keyOf ((keyOf_withOut a out s).trans hold), setKey_emitAll_withOut]

theorem dispatch_appendsSame (w : FrameWord) (s : State) : RuleAppendsSame (dispatch w) s := by
  simp only [RuleAppendsSame, dispatch_eq]
  split_ifs
  · exact .inr ⟨[.move (frameRaw w) 0#16], s, fun _ => rfl⟩
  · exact .inr ⟨[.move 0#16 (frameRaw w)], s, fun _ => rfl⟩
  · exact keyStep_appendsSame .axis2 (frameRaw w) s
  · exact keyStep_appendsSame .axis3 (frameRaw w) s
  · exact .inr ⟨[], s, fun out => by rw [List.append_nil]⟩

theorem completeFrame_appendsSame (b : Byte) (s : State) : RuleAppendsSame (completeFrame b) s := by
  cases h0 : s.buf0 with
  | none => exact .inl ⟨_, fun out => completeFrame_of_empty (s := withOut out s) (.inl h0) b⟩
  | some p0 =>
    cases h1 : s.buf1 with
    | none => exact .inl ⟨_, fun out => completeFrame_of_empty (s := withOut out s) (.inr h1) b⟩
    | some p1 =>
      have hframe : ∀ out, completeFrame b (withOut out s) = dispatch (packFrame b p1 p0) (withOut out (rescan s)) :=
        fun out => completeFrame_of_bufs (s := withOut out s) h0 h1 b
      simp only [RuleAppendsSame, hframe]
      exact dispatch_appendsSame _ (rescan s)

theorem teardown_appendsSame (r : EndReason) (s : State) : RuleAppendsSame (teardown r) s := by
  by_cases hillegal : s.key2 = .illegal ∨ s.key3 = .illegal
  · exact .inl ⟨_, fun out => teardown_error.mpr ⟨hillegal, rfl⟩⟩
  · have hlegal : KeysLegal s := not_or.mp hillegal
    refine .inr ⟨arrangeReleases Config.teardownOrder (releaseOf 0x64#8 0x61#8 s.key2)
      (releaseOf 0x77#8 0x73#8 s.key3) ++ [.endSession r],
      { rescan s with sess := .closed, key2 := .unasserted, key3 := .unasserted }, fun out => ?_⟩
    rw [teardown_of_keysLegal r (s := withOut out s) hlegal, ← List.append_assoc]
    rfl

theorem exec_appendsSame (i : Instr) (s : State) : AppendsSame (exec i) s := by
  cases i with
  | cap2 b => exact (completeFrame_appendsSame b s).atomically
  | closeSession => exact (teardown_appendsSame .closed s).atomically
  | errorSession => exact (teardown_appendsSame .error s).atomically
  | movex raw => exact ⟨[.move raw 0#16], s, fun _ => rfl⟩
  | movey raw => exact ⟨[.move 0#16 raw], s, fun _ => rfl⟩
  | keyh raw => exact (keyStep_appendsSame .axis2 raw s).atomically
  | keyv raw => exact (keyStep_appendsSame .axis3 raw s).atomically
  | sync => exact appendsSame_of_silent (u := { s with phase := .pay0 }) fun _ => rfl
  | cap0 b => exact appendsSame_of_silent (u := { s with buf0 := some b, phase := .pay1 }) fun _ => rfl
  | cap1 b => exact appendsSame_of_silent (u := { s with buf1 := some b, phase := .pay2 }) fun _ => rfl
  | trunc => exact appendsSame_of_silent (u := rescan s) fun _ => rfl
  | openSession =>
    exact appendsSame_of_silent
      (u := { rescan s with sess := .active, key2 := .unasserted, key3 := .unasserted }) fun _ => rfl
  | skip | idle | drop => exact appendsSame_of_silent (u := s) fun _ => rfl
  | refusedOpen | refusedByte | refusedTimeout | refusedClose | refusedError | refusedKind5 | refusedKind67 =>
    exact appendsSame_of_silent (u := { s with refused := true }) fun _ => rfl

/-- With no event on the port, a step changes nothing (log entry 2). -/
theorem step_of_no_input {s : State} (h : s.input = []) : step s = .next s := by
  rw [step, nextEvent_eq_none.mpr h]
  rfl

theorem step_appendsSame (s : State) : AppendsSame step s := by
  cases hinput : s.input with
  | nil => exact appendsSame_of_silent (u := s) fun out => step_of_no_input hinput
  | cons ev rest =>
    obtain ⟨cs, u, hexec⟩ := exec_appendsSame (decodeEvent s.sess s.phase ev) { s with input := rest }
    exact ⟨cs, u, fun out => (step_of_input (s := withOut out s) hinput).trans (hexec out)⟩

/-- Settles O44: the step from any OUT appends the commands and answers the registers that it does from the given
one. -/
theorem outIsNeverReadBack : Obligations.OutIsNeverReadBack := by
  intro s t earlier h
  obtain ⟨cs, u, hstep⟩ := step_appendsSame s
  obtain rfl : t = withOut (s.out ++ cs) u := Host.Outcome.next.inj (h.symm.trans (hstep s.out))
  exact ⟨cs, rfl, hstep earlier⟩

/-! ### The registers of a closed session (R220) -/

/-- With no session open, every event but OPEN is refused (R174, R176). -/
theorem Effect.refused_of_closed {s t : State} {ev : EventWord} (h : Effect s ev t) (hclosed : s.sess = .closed)
    (hkind : kindOf ev ≠ 4#3) : t.refused = true := by
  cases h with
  | refused => rfl
  | sessionOpen _ hopen => exact absurd hopen hkind
  | sync hactive | skip hactive | cap0 hactive | cap1 hactive | cap2 _ hactive | cap2Fault _ hactive | idle hactive
  | trunc hactive | teardown _ _ hactive | teardownFault _ _ hactive => nomatch hactive.symm.trans hclosed

/-- With no session open, a step that takes OPEN runs R170's rule. -/
theorem step_of_open {s : State} {ev : EventWord} {rest : List EventWord} (hclosed : s.sess = .closed)
    (hinput : s.input = ev :: rest) (hkind : kindOf ev = 4#3) :
    step s = exec (.openSession (dataOf ev)) { s with input := rest } := by
  obtain ⟨hselect, -⟩ := openStartsSession
  rw [step_of_input hinput, (hselect s.sess s.phase ev _).mpr ⟨hclosed, hkind, rfl⟩]

/-- Settles O45: with no session open an event is refused or is OPEN, whose rule writes every register. -/
theorem closedRegistersAreUnobservable : Obligations.ClosedRegistersAreUnobservable := by
  intro s ev rest hclosed hinput
  refine ⟨fun hkind => ?_, fun hkind phase buf0 buf1 key2 key3 => ?_⟩
  · obtain ⟨t, hexec, heffect⟩ := exec_decodeEvent_effect { s with input := rest } ev
    exact ⟨t, (step_of_input hinput).trans hexec, heffect.refused_of_closed hclosed hkind⟩
  · calc step { s with phase := phase, buf0 := buf0, buf1 := buf1, key2 := key2, key3 := key3 }
        = exec (.openSession (dataOf ev))
            { s with phase := phase, buf0 := buf0, buf1 := buf1, key2 := key2, key3 := key3, input := rest } :=
          step_of_open hclosed hinput hkind
      _ = exec (.openSession (dataOf ev)) { s with input := rest } :=
          openForgetsEarlierSession _ _ _ rfl rfl rfl rfl
      _ = step s := (step_of_open hclosed hinput hkind).symm

end Sys2Proof.Machine


/-! PROOFS. Four bytes of a frame in four steps (R100 to R105, R122, R226). -/

namespace Sys2Proof.Machine

/-! ### One byte each -/

/-- A BYTE in SCAN that is the sync byte starts a payload (R101). -/
theorem step_sync {s : State} {rest : List EventWord} (hactive : s.sess = .active) (hphase : s.phase = .scan)
    (hinput : s.input = eventWord 0#3 Config.sync :: rest) :
    step s = .next { s with phase := .pay0, input := rest } := by
  obtain ⟨hselect, hexec⟩ := syncStartsPayload
  rw [step_of_input hinput, (hselect s.sess s.phase (eventWord 0#3 Config.sync)).mpr ⟨hactive, hphase, rfl⟩, hexec]

/-- A BYTE in PAY0 is the axis id (R103). -/
theorem step_cap0 {s : State} {b : Byte} {rest : List EventWord} (hactive : s.sess = .active) (hphase : s.phase = .pay0)
    (hinput : s.input = eventWord 0#3 b :: rest) :
    step s = .next { s with buf0 := some b, phase := .pay1, input := rest } := by
  obtain ⟨hselect, hexec⟩ := cap0StoresAxisByte
  rw [step_of_input hinput,
    (hselect s.sess s.phase _ b).mpr ⟨hactive, hphase, kindOf_eventWord _ _, dataOf_eventWord _ _⟩, hexec]

/-- A BYTE in PAY1 is the low byte of the value (R104). -/
theorem step_cap1 {s : State} {b : Byte} {rest : List EventWord} (hactive : s.sess = .active) (hphase : s.phase = .pay1)
    (hinput : s.input = eventWord 0#3 b :: rest) :
    step s = .next { s with buf1 := some b, phase := .pay2, input := rest } := by
  obtain ⟨hselect, hexec⟩ := cap1StoresLowByte
  rw [step_of_input hinput,
    (hselect s.sess s.phase _ b).mpr ⟨hactive, hphase, kindOf_eventWord _ _, dataOf_eventWord _ _⟩, hexec]

/-- A BYTE in PAY2 completes the frame (R105). -/
theorem step_cap2 {s t : State} {b : Byte} {rest : List EventWord} (hactive : s.sess = .active)
    (hphase : s.phase = .pay2)
    (hinput : s.input = eventWord 0#3 b :: rest) (hframe : completeFrame b { s with input := rest } = .ok t) :
    step s = .next t := by
  rw [step_of_input hinput,
    decodeEvent_eq_cap2_iff.mpr ⟨hactive, hphase, kindOf_eventWord _ _, dataOf_eventWord 0#3 b⟩,
    exec_cap2_of_completeFrame_ok hframe]

/-! ### A whole frame -/

/-- In SCAN the buffers are empty (R35), so a rescan changes nothing. -/
theorem RegistersFit.rescan_eq {s : State} (hfit : RegistersFit s) (hphase : s.phase = .scan) : rescan s = s := by
  obtain ⟨hbuf0, hbuf1, -, -⟩ := hfit
  have h0 : s.buf0 = none := by simpa [Buf0Fits, hphase] using hbuf0
  have h1 : s.buf1 = none := by simpa [Buf1Fits, hphase] using hbuf1
  cases s
  subst hphase h0 h1
  rfl

/-- The four bytes of a frame, taken in SCAN of an open session, run the operation of its axis on the state without
them: the payload phases write only PHASE and the buffers, and CAP2 resets those before it runs the operation. -/
theorem frame_runs_in_four_steps {s : State} {axis vlo vhi : Byte} {rest : List EventWord} (hfit : RegistersFit s)
    (hactive : s.sess = .active) (hphase : s.phase = .scan)
    (hinput : s.input = eventWord 0#3 Config.sync :: eventWord 0#3 axis :: eventWord 0#3 vlo ::
      eventWord 0#3 vhi :: rest) :
    ∃ s1 s2 s3 t, step s = .next s1 ∧ step s1 = .next s2 ∧ step s2 = .next s3 ∧ step s3 = .next t ∧
      exec (decodeAxis axis (vhi ++ vlo)) { s with input := rest } = .next t := by
  obtain ⟨hlegal2, hlegal3⟩ := hfit.keysLegal
  have hstart : rescan { s with input := rest } = { s with input := rest } :=
    RegistersFit.rescan_eq (s := { s with input := rest }) hfit hphase
  obtain ⟨t, hdispatch⟩ : ∃ t, dispatch (frameWord axis (vhi ++ vlo)) { s with input := rest } = .ok t :=
    dispatch_isOk (fun _ => hlegal2) (fun _ => hlegal3)
  have hframe : completeFrame vhi { s with phase := .pay2, buf0 := some axis, buf1 := some vlo, input := rest } =
      .ok t := by
    rw [completeFrame_of_bufs rfl rfl, packFrame_eq_frameWord, ← hdispatch, ← hstart]
    rfl
  exact ⟨_, _, _, t, step_sync hactive hphase hinput, step_cap0 hactive rfl rfl, step_cap1 hactive rfl rfl,
    step_cap2 hactive rfl rfl hframe, exec_decodeAxis_of_dispatch_ok hdispatch⟩

/-- Settles O50: ENCODE's two value bytes are the low and the high byte of the 16 bits, which read back as the value. -/
theorem fourBytesRunOneFrame : Obligations.FourBytesRunOneFrame := by
  intro s axis v rest hfit hactive hphase hlow hhigh hinput
  have hbytes : (BitVec.ofInt 16 v).extractLsb' 8 8 ++ (BitVec.ofInt 16 v).extractLsb' 0 8 = BitVec.ofInt 16 v :=
    BitVec.extractLsb'_append_extractLsb'
  obtain ⟨s1, s2, s3, t, h1, h2, h3, h4, hexec⟩ := frame_runs_in_four_steps hfit hactive hphase hinput
  rw [hbytes] at hexec
  refine ⟨?_, decodeAxis axis (BitVec.ofInt 16 v), s1, s2, s3, t, ?_, frameAxis_frameWord _ _,
    (decodeAxis_selected axis _).2, h1, h2, h3, h4, hexec⟩
  · rw [sext16_eq_toInt]
    exact BitVec.toInt_ofInt_eq_self (by decide) hlow (Int.lt_add_one_of_le hhigh)
  · calc decodeBytes .active .pay2 (encodeFrameBytes axis v)
        = decodeFrame (packFrame ((BitVec.ofInt 16 v).extractLsb' 8 8) ((BitVec.ofInt 16 v).extractLsb' 0 8) axis) :=
          rfl
      _ = .ok (decodeAxis axis (BitVec.ofInt 16 v)) := by
          rw [packFrame_eq_frameWord, decodeFrame_frameWord, hbytes]

/-- Settles O51: axis id 255 is not valid, and a DROP leaves the state as it is. -/
theorem doubleSyncDropsFrame : Obligations.DoubleSyncDropsFrame := by
  intro s b1 b2 rest hfit hactive hphase hinput
  obtain ⟨s1, s2, s3, t, h1, h2, h3, h4, hexec⟩ :=
    frame_runs_in_four_steps (axis := Config.sync) hfit hactive hphase hinput
  have hdrop : decodeAxis Config.sync (b2 ++ b1) = .drop Config.sync (b2 ++ b1) :=
    decodeAxis_of_validAxis_eq_false (by decide) _
  obtain ⟨-, hsilent⟩ := dropChangesNothing
  rw [hdrop, hsilent] at hexec
  exact ⟨s1, s2, s3, h1, h2, h3, h4.trans hexec.symm⟩

end Sys2Proof.Machine


/-! PROOFS. What selects each operation and what it does, where one rule says it: power-on, the port, the refused
events, IDLE, the illegal KEY code, and the spec's vector words. -/

namespace Sys2Proof.Machine

/-! ### Reset and the port -/

/-- With no session open and in SCAN, an event of a kind other than OPEN selects a refusal. -/
theorem mnemonicOf_decodeEvent_closed_scan {ev : EventWord} (hkind : kindOf ev ≠ 4#3) :
    mnemonicOf (decodeEvent .closed .scan ev) = "REFUSED" := by
  have hclosed : ¬ IsScanByte .closed .scan (kindOf ev) := fun h => nomatch h.1
  rw [← eventWord_fields ev, mnemonicOf_decodeEvent_eventWord hclosed _ 0#8]
  generalize kindOf ev = kind at hkind
  revert kind
  decide

/-- Settles O1: every field of the reset state is as R220 lists it, and its SESS and PHASE admit OPEN alone. -/
theorem resetIsPowerOnState : Obligations.ResetIsPowerOnState := by
  refine ⟨rfl, rfl, rfl, rfl, rfl, rfl, rfl, rfl, rfl, rfl, fun ev => ?_⟩
  obtain ⟨hselect, -⟩ := openStartsSession
  split_ifs with hkind
  · exact (hselect _ _ ev _).mpr ⟨rfl, hkind, rfl⟩
  · exact mnemonicOf_decodeEvent_closed_scan hkind

/-- Settles O3: the decoder's operation is the one that the event selects. -/
theorem stepRunsDecodedEvent : Obligations.StepRunsDecodedEvent := by
  intro s ev rest hinput
  obtain ⟨hwf, hadm, hword⟩ := selectedBy_decodeEvent s.sess s.phase ev
  exact ⟨step_of_input hinput, hwf, hadm, hword⟩

/-- Settles O4: with nothing to take, the block waits. -/
theorem noEventChangesNothing : Obligations.NoEventChangesNothing := fun _ => step_of_no_input

/-- Settles O5: a transition that answers the same registers from every OUT answers a next state. -/
theorem everyStepAnswersNext : Obligations.EveryStepAnswersNext := by
  refine ⟨fun i s => ?_, fun s => ?_⟩
  · obtain ⟨cs, u, h⟩ := exec_appendsSame i s
    exact ⟨_, h s.out⟩
  · obtain ⟨cs, u, h⟩ := step_appendsSame s
    exact ⟨_, h s.out⟩

/-! ### Refused events (R174 to R176) -/

/-- Settles O6: a closed session admits the refusals of these kinds, and each is `refuse` (R13). -/
theorem noSessionIsRefused : Obligations.NoSessionIsRefused := by
  refine ⟨fun phase ev => ⟨fun hkind => ?byte, fun hkind => ?timeout, fun hkind => ?close, fun hkind => ?error⟩,
    fun _ _ => ⟨rfl, rfl, rfl, rfl⟩⟩
  all_goals exact (decodeEvent_eq_iff_of_admittedIn_sess rfl rfl fun _ _ => rfl).mpr ⟨rfl, hkind, rfl⟩

/-- Settles O7: an open session admits the refusal of OPEN, which is `refuse` (R13). -/
theorem secondOpenIsRefused : Obligations.SecondOpenIsRefused :=
  ⟨fun _ _ hkind => (decodeEvent_eq_iff_of_admittedIn_sess rfl rfl fun _ _ => rfl).mpr ⟨rfl, hkind, rfl⟩,
    fun _ _ => rfl⟩

/-- R67 for an operation that every SESS and PHASE admits. -/
theorem decodeEvent_eq_of_kind {i : Instr} {kind : BitVec 3} {ev : EventWord}
    (hword : encodeWord i = .event (eventWord kind (dataOf ev))) (hwf : i.wellFormed = true)
    (hadm : ∀ sess phase, i.admittedIn sess phase = true) (hkind : kindOf ev = kind) (sess : Sess) (phase : Phase) :
    decodeEvent sess phase ev = i :=
  (decodeEvent_eq_iff_of_encodeWord hword).mpr ⟨hadm sess phase, eq_eventWord_iff.mpr ⟨hkind, rfl⟩, hwf⟩

/-- Settles O8: every state admits the refusals of the reserved kinds, each of which is `refuse` (R13). -/
theorem reservedKindIsRefused : Obligations.ReservedKindIsRefused := by
  refine ⟨fun sess phase ev => ⟨fun hkind => ?kind5, fun hkind => ?kind6, fun hkind => ?kind7⟩,
    fun _ _ _ => ⟨rfl, rfl⟩⟩
  all_goals exact decodeEvent_eq_of_kind rfl rfl (fun _ _ => rfl) hkind sess phase

/-! ### IDLE (R106) -/

/-- Settles O15: IDLE has TRUNC's word, and PHASE tells them apart. -/
theorem idleChangesNothing : Obligations.IdleChangesNothing := by
  refine ⟨fun sess phase ev data => ?_, fun _ _ => rfl⟩
  have hword : encodeWord (.idle data) = .event (eventWord 1#3 data) := rfl
  rw [decodeEvent_eq_iff_of_encodeWord hword, eq_eventWord_iff]
  simp [Instr.wellFormed, Instr.admittedIn, and_assoc]

/-! ### The illegal KEY code (R159) -/

/-- An atomic step whose rule faults sets the FAULT mark and does nothing else. -/
theorem next_atomically_of_error {rule : State → Except Fault State} {s : State} {f : Fault} (h : rule s = .error f) :
    (.next (atomically s rule) : Host.Outcome State Fault Refusal) = .next { s with fault := true } :=
  congrArg Host.Outcome.next (atomically_error h)

/-- CAP2 faults where KEYSTEP of the frame's axis does. -/
theorem completeFrame_error_of_dispatch {s : State} {b p0 p1 : Byte} {f : Fault} (h0 : s.buf0 = some p0)
    (h1 : s.buf1 = some p1) (h : dispatch (frameWord p0 (b ++ p1)) (rescan s) = .error f) :
    completeFrame b s = .error f := by
  rw [completeFrame_of_bufs h0 h1, packFrame_eq_frameWord, h]

theorem dispatch_axis2_of_illegal {s : State} (h : s.key2 = .illegal) (raw : RawValue) :
    dispatch (frameWord 0x02#8 raw) s = .error .keyStateIllegal := by
  rw [dispatch_eq, frameAxis_frameWord]
  exact keyStep_error.mpr ⟨h, rfl⟩

theorem dispatch_axis3_of_illegal {s : State} (h : s.key3 = .illegal) (raw : RawValue) :
    dispatch (frameWord 0x03#8 raw) s = .error .keyStateIllegal := by
  rw [dispatch_eq, frameAxis_frameWord]
  exact keyStep_error.mpr ⟨h, rfl⟩

/-- Settles O22: each rule that reads the register faults, and its atomic step then sets the mark alone. -/
theorem illegalKeyFaults : Obligations.IllegalKeyFaults := by
  refine ⟨fun raw s h => ?keyh, fun raw s h => ?keyv, fun data s h => ⟨?close, ?error⟩, fun b p1 s h0 h1 h => ?axis2,
    fun b p1 s h0 h1 h => ?axis3⟩
  case keyh => exact next_atomically_of_error (keyStep_error (a := .axis2).mpr ⟨h, rfl⟩)
  case keyv => exact next_atomically_of_error (keyStep_error (a := .axis3).mpr ⟨h, rfl⟩)
  case close => exact next_atomically_of_error (teardown_error.mpr ⟨h, rfl⟩)
  case error => exact next_atomically_of_error (teardown_error.mpr ⟨h, rfl⟩)
  case axis2 =>
    exact next_atomically_of_error (completeFrame_error_of_dispatch h0 h1
      (dispatch_axis2_of_illegal (s := rescan s) h _))
  case axis3 =>
    exact next_atomically_of_error (completeFrame_error_of_dispatch h0 h1
      (dispatch_axis3_of_illegal (s := rescan s) h _))

/-! ### The spec's vectors -/

/-- Settles O39: the decoder evaluates on each word. -/
theorem vectorWordsDecode : Obligations.VectorWordsDecode :=
  ⟨rfl, rfl, rfl, rfl, rfl, rfl, rfl, rfl, rfl, rfl, rfl⟩

end Sys2Proof.Machine
